-- ==== Sys2Proof/Word.lean ====
section
/-! DEFINITION. The block's bit vectors and the names the spec gives to small sets of values. -/

namespace Sys2Proof

/-- A received or transmitted byte (00_scope.md section 7: 8 bits, unsigned). -/
abbrev Byte := BitVec 8

/-- Half a byte: a raw house, device or function code (30_encoding.md R38, R39). -/
abbrev Nibble := BitVec 4

/-- A camera slot, 3 bits: 0 is all cameras off, 1..4 a camera (10_state.md R7, R19). -/
abbrev Slot := BitVec 3

/-- An 8-bit counter (10_state.md R9, R10, R13, R16). -/
abbrev Counter := BitVec 8

/-- A unit number, 1..16, in 5 bits (10_state.md R12). -/
abbrev UnitNo := BitVec 5

/-- The protocol variant of one instance of the block (00_scope.md R2). -/
inductive Variant where
  | A | B
  deriving DecidableEq, Repr

/-- A house code, one of sixteen letters (00_scope.md section 7; 10_state.md R6). -/
inductive House where
  | A | B | C | D | E | F | G | H | I | J | K | L | M | N | O | P
  deriving DecidableEq, Repr

/-- ON or OFF, the operation half of a command (42_interpreter.md R77). -/
inductive Op where
  | on | off
  deriving DecidableEq, Repr

/-- The kind of a variant-A decoded event (30_encoding.md R37; 40_decoder_a.md R63). -/
inductive Kind where
  | address | function
  deriving DecidableEq, Repr

/-- The sixteen named function codes (30_encoding.md R42). -/
inductive FuncName where
  | allUnitsOff | allLightsOn | on | off | dim | bright | allLightsOff | extCode
  | hailReq | hailAck | presetDim1 | presetDim2 | extData | statusOn | statusOff | statusReq
  deriving DecidableEq, Repr

/-- The idle-mode policy (10_state.md R5, R6). -/
inductive IdleMode where
  | scan | priorityCamera | none
  deriving DecidableEq, Repr

/-- Run or Menu (10_state.md R18; 60_exceptions.md R109). -/
inductive Mode where
  | run | menu
  deriving DecidableEq, Repr

/-- The six commands of the action table (42_interpreter.md R77). -/
inductive Command where
  | camOn (n : Slot) | scanOn | stepPrev | camOff (n : Slot) | allOff | stepNext
  deriving DecidableEq, Repr

/-- The conditions of 60_exceptions.md R100. -/
inductive Condition where
  | desync | malformed | foreign | duplicate | noRow
  deriving DecidableEq, Repr

end Sys2Proof
end

