-- ==== Sys2Proof/Config.lean ====
section
/-! DEFINITION. What is fixed for one instance of the block (00_scope.md R2 and section 6), the configuration
record it is given (10_state.md R5), and the values the spec leaves free. -/

namespace Sys2Proof

/-- `MAX_FRAME_LEN` (00_scope.md section 6; 30_encoding.md R35). -/
def Config.maxFrameLen : Nat := 9

/-- `PRESCALE` (00_scope.md section 6; 43_timer.md R92). -/
def Config.prescale : Nat := 5

/-- The number of bytes of the frame buffer (10_state.md R14). -/
def Config.bufferBytes : Nat := 9

/-- The draws of 40_decoder_a.md R57, one value for each count of draws made so far: nothing is known of them
but the bound the rule sets, which `State.draw` imposes. DESIGN CHOICE, log 10. -/
opaque Config.freeDraw : Nat → Nat

/-- `MUX_LINES(slot)`: the pattern on the selection lines (60_exceptions.md R114). No section gives it. Log 22. -/
opaque Config.muxLines : Slot → List Bool

/-- `CTRL_LINE(slot)`: the control line, which one of the variants has (60_exceptions.md R114). Log 22. -/
opaque Config.ctrlLine : Variant → Slot → Option Bool

/-- The implementation parameters of 00_scope.md section 6 that the spec leaves OPEN or marks as general
knowledge. They are constants of an instance (10_state.md R22). -/
structure Params where
  /-- `HOUSE_TABLE_A` (30_encoding.md R40). -/
  houseTableA : Vector House 16
  /-- `DEVICE_TABLE_A` (30_encoding.md R41). -/
  deviceTableA : Vector UnitNo 16
  /-- The function-code table (30_encoding.md R42); `FUNC_ON_A` and `FUNC_OFF_A` are where it says On and Off. -/
  functionTableA : Vector FuncName 16
  /-- `HOUSE_TABLE_B` (30_encoding.md R44). -/
  houseTableB : Vector House 16
  /-- The ON column of `UNIT_RAW_TABLE_B`, units 1 to 6 (30_encoding.md R45). -/
  unitOnB : Vector Byte 6
  /-- The OFF column of `UNIT_RAW_TABLE_B`, units 1 to 6 (30_encoding.md R45). -/
  unitOffB : Vector Byte 6
  /-- `SCAN_THRESHOLD[0..5]` (43_timer.md R97). -/
  scanThreshold : Vector Nat 6
  /-- `INACTIVITY_THRESHOLD` (43_timer.md R94). -/
  inactivityThreshold : Nat
  /-- `RESYNC_THRESHOLD` (43_timer.md R95). -/
  resyncThreshold : Nat
  /-- `RESYNC_TX` (43_timer.md R96). -/
  resyncTx : List Byte
  /-- `RECOVERY_WINDOW` (40_decoder_a.md R57). -/
  recoveryWindow : Nat
  /-- `MASK_BIT_OFFSET` (30_encoding.md R37). -/
  maskBitOffset : Nat
  deriving DecidableEq, Repr

/-- What the spec requires of the tables: the house tables and the device table are bijections, the function
codes differ, the unit codes differ, and the two entries the document prints (92_eei_decisions.md D9). -/
abbrev Params.TablesLegal (p : Params) : Prop :=
  p.houseTableA.toList.Nodup ∧
  p.deviceTableA.toList.Nodup ∧
  (∀ u ∈ p.deviceTableA.toList, 1 ≤ u.toNat ∧ u.toNat ≤ 16) ∧
  p.functionTableA.toList.Nodup ∧
  p.houseTableB.toList.Nodup ∧
  p.houseTableB[6] = .A ∧
  (p.unitOnB.toList ++ p.unitOffB.toList).Nodup ∧
  p.unitOnB[0] = 0

/-- The bounds on the numbers (00_scope.md section 6, the paragraph after the table). -/
abbrev Params.BoundsLegal (p : Params) : Prop :=
  (∀ t ∈ p.scanThreshold.toList, 1 ≤ t ∧ t ≤ 255) ∧
  p.inactivityThreshold ≤ 254 ∧
  1 ≤ p.resyncThreshold ∧ p.resyncThreshold ≤ 255 ∧
  p.recoveryWindow ≤ 255 ∧
  p.maskBitOffset ≤ 1

/-- A legal set of parameters. -/
abbrev Params.Legal (p : Params) : Prop := p.TablesLegal ∧ p.BoundsLegal

/-- What never changes in one instance of the block (00_scope.md R2; 10_state.md R22). Log 1. -/
structure Fixed where
  variant : Variant
  params : Params
  deriving DecidableEq, Repr

/-- The configuration record as the Configuration Store gives it, in typed fields (10_state.md R5;
20_memory.md R29). The numbers are unbounded here, so that an illegal record can be written down. -/
structure Record where
  selectedCamera : Nat
  maxCamera : Nat
  scanPeriodMultiplier : Nat
  houseCode : House
  idleMode : IdleMode
  deriving DecidableEq, Repr

/-- The record's invariant and ranges (10_state.md R5). -/
abbrev Record.Legal (r : Record) : Prop :=
  r.selectedCamera ≤ r.maxCamera ∧ 2 ≤ r.maxCamera ∧ r.maxCamera ≤ 4 ∧ r.scanPeriodMultiplier ≤ 5

end Sys2Proof
end

