-- ==== Sys2Proof/Syntax.lean ====
section
/-! DEFINITION. The instructions: one constructor for each row of spec/opcode_table.json, in its order, and the
formats of 30_encoding.md R50. -/

namespace Sys2Proof

/-- The formats of spec/opcode_table.json (30_encoding.md R50). -/
inductive Format where
  | aFirst | aDataCollect | aDataDiscard | aPayload
  | bPos0 | bPos1 | bPos2 | bPos3 | bPos4 | bFrame | bU
  | action | event
  deriving DecidableEq, Repr

/-- An instruction is one input event (00_scope.md section 4). -/
inductive Instr where
  -- A-FIRST (30_encoding.md R35)
  | aPoll | aNull | aTimereq | aReady
  | aLen1 | aLen2 | aLen3 | aLen4 | aLen5 | aLen6 | aLen7 | aLen8 | aLen9
  | aDesync (b : Byte)
  -- A-DATA-COLLECT, A-DATA-DISCARD (40_decoder_a.md R58, R60)
  | aCollect (b : Byte)
  | aDiscard (b : Byte)
  -- A-PAYLOAD (30_encoding.md R38, R39): `h` is `house_raw`, `d` is `device_raw`
  | aAddress (h d : Nibble)
  | aFuncOn (h : Nibble) | aFuncOff (h : Nibble)
  | aFuncAllUnitsOff (h : Nibble) | aFuncAllLightsOn (h : Nibble)
  | aFuncDim (h : Nibble) | aFuncBright (h : Nibble)
  | aFuncAllLightsOff (h : Nibble) | aFuncExtCode (h : Nibble)
  | aFuncHailReq (h : Nibble) | aFuncHailAck (h : Nibble)
  | aFuncPresetDim1 (h : Nibble) | aFuncPresetDim2 (h : Nibble)
  | aFuncExtData (h : Nibble) | aFuncStatusOn (h : Nibble)
  | aFuncStatusOff (h : Nibble) | aFuncStatusReq (h : Nibble)
  -- B-POS0 to B-POS4 (41_decoder_b.md R65 to R69): `h`, `x` are the two nibbles of `H`
  | bP1 | bP1Miss (b : Byte)
  | bP2 | bP2Miss (b : Byte)
  | bH (h x : Nibble)
  | bU (u : Byte)
  | bP3 | bP3Miss (b : Byte)
  -- B-FRAME (30_encoding.md R43)
  | bFrame (h x : Nibble) (u : Byte)
  -- B-U (30_encoding.md R45)
  | bU1On | bU1Off | bU2On | bU2Off | bU3On | bU3Off
  | bU4On | bU4Off | bU5On | bU5Off | bU6On | bU6Off
  | bUOther (u : Byte)
  -- ACTION (42_interpreter.md R77)
  | camOn1 | camOn2 | camOn3 | camOn4 | scanOn | stepPrev
  | camOff1 | camOff2 | camOff3 | camOff4 | allOff | stepNext
  -- NOROW: `u` is the unit number minus 1 (30_encoding.md R50)
  | noRow (o : Op) (u : Nibble)
  -- EVENT
  | tickA | tickB | resync
  | reset (cfg : Record)
  | resume (cfg : Record)
  deriving DecidableEq, Repr

/-- The format a row stands under in spec/opcode_table.json. -/
def Instr.format : Instr → Format
  | .aPoll | .aNull | .aTimereq | .aReady => .aFirst
  | .aLen1 | .aLen2 | .aLen3 | .aLen4 | .aLen5 | .aLen6 | .aLen7 | .aLen8 | .aLen9 => .aFirst
  | .aDesync _ => .aFirst
  | .aCollect _ => .aDataCollect
  | .aDiscard _ => .aDataDiscard
  | .aAddress _ _ => .aPayload
  | .aFuncOn _ | .aFuncOff _ | .aFuncAllUnitsOff _ | .aFuncAllLightsOn _ | .aFuncDim _ | .aFuncBright _
  | .aFuncAllLightsOff _ | .aFuncExtCode _ | .aFuncHailReq _ | .aFuncHailAck _ | .aFuncPresetDim1 _
  | .aFuncPresetDim2 _ | .aFuncExtData _ | .aFuncStatusOn _ | .aFuncStatusOff _ | .aFuncStatusReq _ => .aPayload
  | .bP1 | .bP1Miss _ => .bPos0
  | .bP2 | .bP2Miss _ => .bPos1
  | .bH _ _ => .bPos2
  | .bU _ => .bPos3
  | .bP3 | .bP3Miss _ => .bPos4
  | .bFrame _ _ _ => .bFrame
  | .bU1On | .bU1Off | .bU2On | .bU2Off | .bU3On | .bU3Off => .bU
  | .bU4On | .bU4Off | .bU5On | .bU5Off | .bU6On | .bU6Off => .bU
  | .bUOther _ => .bU
  | .camOn1 | .camOn2 | .camOn3 | .camOn4 | .scanOn | .stepPrev => .action
  | .camOff1 | .camOff2 | .camOff3 | .camOff4 | .allOff | .stepNext => .action
  | .noRow _ _ => .action
  | .tickA | .tickB | .resync | .reset _ | .resume _ => .event

/-- How many bytes an instruction of a format takes: its bits in whole bytes (30_encoding.md R50). -/
def Format.byteCount : Format → Nat
  | .aPayload => 2
  | .bFrame => 5
  | .event => 0
  | _ => 1

end Sys2Proof
end

