-- ==== Sys2Proof/Machine/Operands.lean ====
section
/-! DEFINITION. The operand forms: the fields of a byte, the lookups in the constant tables, the row of the action
table, and the default tables of 30_encoding.md R40 to R45. -/

namespace Sys2Proof

/-- `b[7:4]` (00_scope.md section 7). -/
def hiNibble (b : Byte) : Nibble := b.extractLsb' 4 4

/-- `b[3:0]` (00_scope.md section 7). -/
def loNibble (b : Byte) : Nibble := b.extractLsb' 0 4

/-- The byte with high nibble `h` and low nibble `l`. -/
def joinNibbles (h l : Nibble) : Byte := h ++ l

/-- Bit `k` of the bitmask as a kind: 1 is Function, 0 is Address, and a bit above 7 reads as 0
(30_encoding.md R37). -/
def maskKind (mask : Byte) (k : Nat) : Kind := if mask.getLsbD k then .function else .address

namespace Params

/-- `HOUSE_TABLE_A[house_raw]` (30_encoding.md R40). -/
def letterA (p : Params) (n : Nibble) : House := p.houseTableA[n.toNat]'n.isLt

/-- `DEVICE_TABLE_A[device_raw]` (30_encoding.md R41). -/
def unitA (p : Params) (n : Nibble) : UnitNo := p.deviceTableA[n.toNat]'n.isLt

/-- The function code's name (30_encoding.md R42). -/
def funcName (p : Params) (n : Nibble) : FuncName := p.functionTableA[n.toNat]'n.isLt

/-- The raw code of a named function: `FUNC_ON_A` is `funcCode .on` (30_encoding.md R42). -/
def funcCode (p : Params) (f : FuncName) : Nibble := BitVec.ofNat 4 (p.functionTableA.toList.idxOf f)

/-- `HOUSE_TABLE_B[house_raw]` (30_encoding.md R44). -/
def letterB (p : Params) (n : Nibble) : House := p.houseTableB[n.toNat]'n.isLt

/-- One column of `UNIT_RAW_TABLE_B` (30_encoding.md R45). -/
def unitColumn (p : Params) : Op → Vector Byte 6
  | .on => p.unitOnB
  | .off => p.unitOffB

/-- The raw byte of logical unit `k + 1` with an operation (30_encoding.md R45). -/
def unitCode (p : Params) (k : Fin 6) (op : Op) : Byte := (p.unitColumn op)[k.val]'k.isLt

/-- `UNIT_RAW_TABLE_B[unit_raw]`, as the index of the logical unit (unit 1 is index 0) and the operation;
`none` for the bytes without an entry (30_encoding.md R45). -/
def unitRow (p : Params) (u : Byte) : Option (Fin 6 × Op) :=
  if h : p.unitOnB.toList.idxOf u < 6 then some (⟨p.unitOnB.toList.idxOf u, h⟩, .on)
  else if h : p.unitOffB.toList.idxOf u < 6 then some (⟨p.unitOffB.toList.idxOf u, h⟩, .off)
  else none

/-- `SCAN_THRESHOLD[m]` (43_timer.md R97). -/
def scanTicks (p : Params) (m : Fin 6) : Nat := p.scanThreshold[m.val]'m.isLt

end Params

/-- The function code that carries an operation (42_interpreter.md R74). -/
def opFunction : Op → FuncName
  | .on => .on
  | .off => .off

/-- The raw code of a letter in a house table (30_encoding.md R40, R44). -/
def rawHouse (table : Vector House 16) (l : House) : Nibble := BitVec.ofNat 4 (table.toList.idxOf l)

/-- The unit number of an index: unit 1 is index 0. -/
def unitOfIndex (k : Fin 6) : UnitNo := BitVec.ofNat 5 (k.val + 1)

/-- The unit number of the ACTION format's bits 3:0, which hold the number minus 1 (30_encoding.md R50). -/
def unitOfField (u : Nibble) : UnitNo := u.setWidth 5 + 1

/-- The row of the action table for a unit and an operation, `none` where there is no row: the unit is not
1..6, or it is 1..4 and above `max_camera` (42_interpreter.md R77, R89). Logs 20, 26. -/
def actionRow (maxCamera : Slot) (u : UnitNo) : Op → Option Command
  | .on =>
    if u = 5 then some .scanOn
    else if u = 6 then some .stepPrev
    else if 1 ≤ u.toNat ∧ u.toNat ≤ 4 ∧ u.toNat ≤ maxCamera.toNat then some (.camOn (u.setWidth 3))
    else none
  | .off =>
    if u = 5 then some .allOff
    else if u = 6 then some .stepNext
    else if 1 ≤ u.toNat ∧ u.toNat ≤ 4 ∧ u.toNat ≤ maxCamera.toNat then some (.camOff (u.setWidth 3))
    else none

/-- `prev(c)` with `max_camera` = M (42_interpreter.md R87). -/
def prevSlot (M c : Slot) : Slot := if c.toNat ≤ 1 then M else c - 1

/-- `next(c)` with `max_camera` = M (42_interpreter.md R87). -/
def nextSlot (M c : Slot) : Slot := if M.toNat ≤ c.toNat then 1 else c + 1

/-! The default tables and numbers. PRESUMED (general knowledge, as the spec marks them), log 2; the numbers are
DESIGN CHOICE, log 3. Only State.reset and the opcode table's words rest on them. -/

/-- 30_encoding.md R40. -/
def defaultHouseTableA : Vector House 16 :=
  #v[.M, .E, .C, .K, .O, .G, .A, .I, .N, .F, .D, .L, .P, .H, .B, .J]

/-- 30_encoding.md R41. -/
def defaultDeviceTableA : Vector UnitNo 16 :=
  #v[13, 5, 3, 11, 15, 7, 1, 9, 14, 6, 4, 12, 16, 8, 2, 10]

/-- 30_encoding.md R42. -/
def defaultFunctionTableA : Vector FuncName 16 :=
  #v[.allUnitsOff, .allLightsOn, .on, .off, .dim, .bright, .allLightsOff, .extCode,
     .hailReq, .hailAck, .presetDim1, .presetDim2, .extData, .statusOn, .statusOff, .statusReq]

/-- 30_encoding.md R44. -/
def defaultHouseTableB : Vector House 16 :=
  #v[.M, .N, .O, .P, .C, .D, .A, .B, .E, .F, .G, .H, .K, .L, .I, .J]

/-- The defaults of 00_scope.md section 6; `RECOVERY_WINDOW` is the example value of 95_test_vectors.md. -/
def defaultParams : Params where
  houseTableA := defaultHouseTableA
  deviceTableA := defaultDeviceTableA
  functionTableA := defaultFunctionTableA
  houseTableB := defaultHouseTableB
  unitOnB := #v[0x00, 0x10, 0x08, 0x18, 0x40, 0x50]
  unitOffB := #v[0x20, 0x30, 0x28, 0x38, 0x60, 0x70]
  scanThreshold := #v[1, 2, 3, 4, 5, 6]
  inactivityThreshold := 12
  resyncThreshold := 60
  resyncTx := []
  recoveryWindow := 10
  maskBitOffset := 0

end Sys2Proof
end

