-- ==== Sys2Proof/WellFormed.lean ====
section
/-! DEFINITION. When an instruction is well formed: its operands are ones that its row, and no earlier row of the
same format, stands for (30_encoding.md R50). -/

namespace Sys2Proof

/-- What decoding looks up besides the bits: the instance's tables, and `max_camera`, on which the rows of the
ACTION format depend (30_encoding.md R50). -/
structure Ctx where
  params : Params
  maxCamera : Slot
  deriving DecidableEq, Repr

/-- The byte is none of the first bytes that have a row of their own (30_encoding.md R35, row 6). -/
abbrev IsDesyncByte (b : Byte) : Prop := b ≠ 0x5A ∧ b ≠ 0xA5 ∧ b ≠ 0x55 ∧ 9 < b.toNat

/-- Well-formedness, as a Bool. The default rows hold only the values no row before them stands for; the rows
CAM.ON n and CAM.OFF n hold only up to `max_camera`; a record must be legal (10_state.md R5). -/
def Instr.wellFormed (c : Ctx) : Instr → Bool
  | .aDesync b => decide (IsDesyncByte b)
  | .bP1Miss b => decide (b ≠ 0xD5)
  | .bP2Miss b => decide (b ≠ 0xAA)
  | .bP3Miss b => decide (b ≠ 0xAD)
  | .bUOther u => decide (c.params.unitRow u = none)
  | .camOn1 | .camOff1 => decide (1 ≤ c.maxCamera.toNat)
  | .camOn2 | .camOff2 => decide (2 ≤ c.maxCamera.toNat)
  | .camOn3 | .camOff3 => decide (3 ≤ c.maxCamera.toNat)
  | .camOn4 | .camOff4 => decide (4 ≤ c.maxCamera.toNat)
  | .noRow o u => decide (actionRow c.maxCamera (unitOfField u) o = none)
  | .reset r | .resume r => decide r.Legal
  | .aPoll | .aNull | .aTimereq | .aReady => true
  | .aLen1 | .aLen2 | .aLen3 | .aLen4 | .aLen5 | .aLen6 | .aLen7 | .aLen8 | .aLen9 => true
  | .aCollect _ | .aDiscard _ | .aAddress _ _ => true
  | .aFuncOn _ | .aFuncOff _ | .aFuncAllUnitsOff _ | .aFuncAllLightsOn _ | .aFuncDim _ | .aFuncBright _
  | .aFuncAllLightsOff _ | .aFuncExtCode _ | .aFuncHailReq _ | .aFuncHailAck _ | .aFuncPresetDim1 _
  | .aFuncPresetDim2 _ | .aFuncExtData _ | .aFuncStatusOn _ | .aFuncStatusOff _ | .aFuncStatusReq _ => true
  | .bP1 | .bP2 | .bH _ _ | .bU _ | .bP3 | .bFrame _ _ _ => true
  | .bU1On | .bU1Off | .bU2On | .bU2Off | .bU3On | .bU3Off => true
  | .bU4On | .bU4Off | .bU5On | .bU5Off | .bU6On | .bU6Off => true
  | .scanOn | .stepPrev | .allOff | .stepNext => true
  | .tickA | .tickB | .resync => true

/-- Well-formedness as a proposition. -/
abbrev Instr.WellFormed (c : Ctx) (i : Instr) : Prop := i.wellFormed c = true

end Sys2Proof
end

