-- ==== Sys2Proof/Decode.lean ====
section
/-! DEFINITION. From bytes to an instruction, and back (30_encoding.md R35 to R50). -/

namespace Sys2Proof

/-- Why bytes are refused. -/
inductive DecodeError where
  /-- There are fewer bytes than the format has. -/
  | tooShort
  /-- A bit the format does not have is 1 (the eight bits above an A-PAYLOAD mask bit hold seven of them, the
  byte of an ACTION word three). -/
  | bitsOutsideFormat
  /-- The bytes are not `D5 AA H U AD` (30_encoding.md R43). -/
  | notAFrame
  /-- An EVENT carries no bits: which event it is comes with the event (30_encoding.md R50). -/
  | eventHasNoBits
  deriving DecidableEq, Repr

/-- The class of a first byte, in the priority order of 30_encoding.md R35. -/
def decodeFirst (b : Byte) : Instr :=
  if b = 0x5A then .aPoll
  else if b = 0x00 then .aNull
  else if b = 0xA5 then .aTimereq
  else if b = 0x55 then .aReady
  else if b = 0x01 then .aLen1
  else if b = 0x02 then .aLen2
  else if b = 0x03 then .aLen3
  else if b = 0x04 then .aLen4
  else if b = 0x05 then .aLen5
  else if b = 0x06 then .aLen6
  else if b = 0x07 then .aLen7
  else if b = 0x08 then .aLen8
  else if b = 0x09 then .aLen9
  else .aDesync b

/-- The Function row of a named code (30_encoding.md R42, R50). -/
def funcInstr (h : Nibble) : FuncName → Instr
  | .allUnitsOff => .aFuncAllUnitsOff h
  | .allLightsOn => .aFuncAllLightsOn h
  | .on => .aFuncOn h
  | .off => .aFuncOff h
  | .dim => .aFuncDim h
  | .bright => .aFuncBright h
  | .allLightsOff => .aFuncAllLightsOff h
  | .extCode => .aFuncExtCode h
  | .hailReq => .aFuncHailReq h
  | .hailAck => .aFuncHailAck h
  | .presetDim1 => .aFuncPresetDim1 h
  | .presetDim2 => .aFuncPresetDim2 h
  | .extData => .aFuncExtData h
  | .statusOn => .aFuncStatusOn h
  | .statusOff => .aFuncStatusOff h
  | .statusReq => .aFuncStatusReq h

/-- The row of a payload byte with its kind (30_encoding.md R38, R39). -/
def decodePayload (p : Params) (kind : Kind) (b : Byte) : Instr :=
  match kind with
  | .address => .aAddress (hiNibble b) (loNibble b)
  | .function => funcInstr (hiNibble b) (p.funcName (loNibble b))

/-- The B-U row of a unit index and operation (30_encoding.md R45, R50). -/
def unitInstr : Fin 6 → Op → Instr
  | 0, .on => .bU1On
  | 0, .off => .bU1Off
  | 1, .on => .bU2On
  | 1, .off => .bU2Off
  | 2, .on => .bU3On
  | 2, .off => .bU3Off
  | 3, .on => .bU4On
  | 3, .off => .bU4Off
  | 4, .on => .bU5On
  | 4, .off => .bU5Off
  | 5, .on => .bU6On
  | 5, .off => .bU6Off

/-- The B-U row of a `U` byte (30_encoding.md R45). -/
def decodeUnit (p : Params) (u : Byte) : Instr :=
  match p.unitRow u with
  | some (k, op) => unitInstr k op
  | none => .bUOther u

/-- The ACTION row of an operation and a unit field; the rows for units 1 to 4 hold only up to `max_camera`
(30_encoding.md R50). -/
def decodeAction (maxCamera : Slot) (o : Op) (u : Nibble) : Instr :=
  match actionRow maxCamera (unitOfField u) o with
  | some (.camOn n) =>
    if n = 1 then .camOn1 else if n = 2 then .camOn2 else if n = 3 then .camOn3 else .camOn4
  | some (.camOff n) =>
    if n = 1 then .camOff1 else if n = 2 then .camOff2 else if n = 3 then .camOff3 else .camOff4
  | some .scanOn => .scanOn
  | some .allOff => .allOff
  | some .stepPrev => .stepPrev
  | some .stepNext => .stepNext
  | none => .noRow o u

/-- The operation bit of the ACTION format: 1 for ON (30_encoding.md R50). -/
def opOfBit (b : Bool) : Op := if b then .on else .off

/-- Decoding: the instruction of a format at the front of the bytes, and the bytes after it. Bytes stand in
order of reception; an A-PAYLOAD row is the payload byte and then its mask bit, an ACTION row one byte. -/
def decode (c : Ctx) : Format → List Byte → Except DecodeError (Instr × List Byte)
  | .aFirst, b :: rest => .ok (decodeFirst b, rest)
  | .aDataCollect, b :: rest => .ok (.aCollect b, rest)
  | .aDataDiscard, b :: rest => .ok (.aDiscard b, rest)
  | .aPayload, b :: m :: rest =>
    if m.toNat < 2 then .ok (decodePayload c.params (maskKind m 0) b, rest) else .error .bitsOutsideFormat
  | .bPos0, b :: rest => .ok (if b = 0xD5 then .bP1 else .bP1Miss b, rest)
  | .bPos1, b :: rest => .ok (if b = 0xAA then .bP2 else .bP2Miss b, rest)
  | .bPos2, b :: rest => .ok (.bH (hiNibble b) (loNibble b), rest)
  | .bPos3, b :: rest => .ok (.bU b, rest)
  | .bPos4, b :: rest => .ok (if b = 0xAD then .bP3 else .bP3Miss b, rest)
  | .bFrame, p1 :: p2 :: h :: u :: p3 :: rest =>
    if p1 = 0xD5 ∧ p2 = 0xAA ∧ p3 = 0xAD then .ok (.bFrame (hiNibble h) (loNibble h) u, rest)
    else .error .notAFrame
  | .bU, b :: rest => .ok (decodeUnit c.params b, rest)
  | .action, b :: rest =>
    if b.toNat < 32 then .ok (decodeAction c.maxCamera (opOfBit (b.getLsbD 4)) (loNibble b), rest)
    else .error .bitsOutsideFormat
  | .event, _ => .error .eventHasNoBits
  | _, _ => .error .tooShort

/-! The encoder, from the same tables. -/

/-- The bytes of an Address payload: the byte, then mask bit 0 (30_encoding.md R38, R50). -/
def addressBytes (h d : Nibble) : List Byte := [joinNibbles h d, 0]

/-- The bytes of a Function payload: the byte, then mask bit 1 (30_encoding.md R39, R50). -/
def functionBytes (p : Params) (f : FuncName) (h : Nibble) : List Byte := [joinNibbles h (p.funcCode f), 1]

/-- The byte of an ACTION row: the operation in bit 4, the unit number minus 1 in bits 3:0 (30_encoding.md R50). -/
def actionByte (o : Op) (u : Nibble) : Byte :=
  match o with
  | .on => joinNibbles 1 u
  | .off => joinNibbles 0 u

/-- The bytes of an instruction, in the order `decode` reads them. -/
def encode (c : Ctx) : Instr → List Byte
  | .aPoll => [0x5A]
  | .aNull => [0x00]
  | .aTimereq => [0xA5]
  | .aReady => [0x55]
  | .aLen1 => [0x01]
  | .aLen2 => [0x02]
  | .aLen3 => [0x03]
  | .aLen4 => [0x04]
  | .aLen5 => [0x05]
  | .aLen6 => [0x06]
  | .aLen7 => [0x07]
  | .aLen8 => [0x08]
  | .aLen9 => [0x09]
  | .aDesync b => [b]
  | .aCollect b => [b]
  | .aDiscard b => [b]
  | .aAddress h d => addressBytes h d
  | .aFuncOn h => functionBytes c.params .on h
  | .aFuncOff h => functionBytes c.params .off h
  | .aFuncAllUnitsOff h => functionBytes c.params .allUnitsOff h
  | .aFuncAllLightsOn h => functionBytes c.params .allLightsOn h
  | .aFuncDim h => functionBytes c.params .dim h
  | .aFuncBright h => functionBytes c.params .bright h
  | .aFuncAllLightsOff h => functionBytes c.params .allLightsOff h
  | .aFuncExtCode h => functionBytes c.params .extCode h
  | .aFuncHailReq h => functionBytes c.params .hailReq h
  | .aFuncHailAck h => functionBytes c.params .hailAck h
  | .aFuncPresetDim1 h => functionBytes c.params .presetDim1 h
  | .aFuncPresetDim2 h => functionBytes c.params .presetDim2 h
  | .aFuncExtData h => functionBytes c.params .extData h
  | .aFuncStatusOn h => functionBytes c.params .statusOn h
  | .aFuncStatusOff h => functionBytes c.params .statusOff h
  | .aFuncStatusReq h => functionBytes c.params .statusReq h
  | .bP1 => [0xD5]
  | .bP1Miss b => [b]
  | .bP2 => [0xAA]
  | .bP2Miss b => [b]
  | .bH h x => [joinNibbles h x]
  | .bU u => [u]
  | .bP3 => [0xAD]
  | .bP3Miss b => [b]
  | .bFrame h x u => [0xD5, 0xAA, joinNibbles h x, u, 0xAD]
  | .bU1On => [c.params.unitCode 0 .on]
  | .bU1Off => [c.params.unitCode 0 .off]
  | .bU2On => [c.params.unitCode 1 .on]
  | .bU2Off => [c.params.unitCode 1 .off]
  | .bU3On => [c.params.unitCode 2 .on]
  | .bU3Off => [c.params.unitCode 2 .off]
  | .bU4On => [c.params.unitCode 3 .on]
  | .bU4Off => [c.params.unitCode 3 .off]
  | .bU5On => [c.params.unitCode 4 .on]
  | .bU5Off => [c.params.unitCode 4 .off]
  | .bU6On => [c.params.unitCode 5 .on]
  | .bU6Off => [c.params.unitCode 5 .off]
  | .bUOther u => [u]
  | .camOn1 => [actionByte .on 0]
  | .camOn2 => [actionByte .on 1]
  | .camOn3 => [actionByte .on 2]
  | .camOn4 => [actionByte .on 3]
  | .scanOn => [actionByte .on 4]
  | .stepPrev => [actionByte .on 5]
  | .camOff1 => [actionByte .off 0]
  | .camOff2 => [actionByte .off 1]
  | .camOff3 => [actionByte .off 2]
  | .camOff4 => [actionByte .off 3]
  | .allOff => [actionByte .off 4]
  | .stepNext => [actionByte .off 5]
  | .noRow o u => [actionByte o u]
  | .tickA => []
  | .tickB => []
  | .resync => []
  | .reset _ => []
  | .resume _ => []

/-! The opcode table's words, without a state to say which format is read. -/

/-- The tables the words of spec/opcode_table.json are written with, and a `max_camera` for which all its ACTION
rows hold. -/
def tableCtx : Ctx := { params := defaultParams, maxCamera := 4 }

/-- The format whose row a bare word of `nbits` bits stands for. The table writes one word under several formats
(0x00 is A.NULL and B.U1.ON); the choice is the first row, in the table's order, whose pattern fixes every bit
and is the word, and else A.DESYNC. DESIGN CHOICE, log 16. -/
def tableFormat (nbits w : Nat) : Option Format :=
  if 2 ^ nbits ≤ w then none
  else if nbits = 0 then some .event
  else if nbits = 8 then
    let b : Byte := BitVec.ofNat 8 w
    if ¬ IsDesyncByte b then some .aFirst
    else if b = 0xD5 then some .bPos0
    else if b = 0xAA then some .bPos1
    else if b = 0xAD then some .bPos4
    else if (defaultParams.unitRow b).isSome then some .bU
    else if 0x11 ≤ w ∧ w ≤ 0x15 then some .action
    else some .aFirst
  else if nbits = 16 then some .aPayload
  else if nbits = 40 then some .bFrame
  else none

/-- The bytes of a word in order: the lowest first, but for B-FRAME, whose fields the table numbers with the
first byte received in bits 39:32. Log 16. -/
def tableBytes (f : Format) (w : Nat) : List Byte :=
  match f with
  | .event => []
  | .aPayload => [BitVec.ofNat 8 w, BitVec.ofNat 8 (w / 256)]
  | .bFrame =>
    [BitVec.ofNat 8 (w / 256 ^ 4), BitVec.ofNat 8 (w / 256 ^ 3), BitVec.ofNat 8 (w / 256 ^ 2),
     BitVec.ofNat 8 (w / 256), BitVec.ofNat 8 w]
  | _ => [BitVec.ofNat 8 w]

/-- The instruction the decoder reads from a word of spec/opcode_table.json. Of the five rows without bits it
answers the first, TICK.A. -/
def decodeTableWord (nbits w : Nat) : Option Instr :=
  match tableFormat nbits w with
  | none => none
  | some .event => some .tickA
  | some f =>
    match decode tableCtx f (tableBytes f w) with
    | .ok (i, []) => some i
    | _ => none

end Sys2Proof
end

