-- ==== Sys2Proof/Machine/State.lean ====
section
/-! DEFINITION. The state of the block as plain data (10_state.md), why a step can stop, and the state after
reset. -/

namespace Sys2Proof.Machine

/-- The frame buffer's contents as (index, byte) pairs, indices rising, no entry that equals what an unlisted
index reads as (Machine/Memory.lean). -/
abbrev Memory := List Host.Cell

/-- The latched copy of the configuration (10_state.md R6). The multiplier's three bits hold 0..5 only. -/
structure Latched where
  maxCamera : Slot
  scanPeriodMultiplier : Fin 6
  houseCode : House
  idleMode : IdleMode
  deriving DecidableEq, Repr

/-- The camera and scan state the two contexts share (10_state.md R7 to R10). -/
structure Camera where
  currentCamera : Slot
  scanActive : Bool
  scanCycleCounter : Counter
  inactivityCounter : Counter
  deriving DecidableEq, Repr

/-- The duplicate-suppression token, variant B (10_state.md R11). -/
structure Token where
  dupValid : Bool
  dupValue : Byte
  deriving DecidableEq, Repr

/-- The address-tracking registers, variant A (10_state.md R12). -/
structure Tracking where
  lastHouse : Option House
  lastUnit : Option UnitNo
  deriving DecidableEq, Repr

/-- `a_state` (10_state.md R13). -/
inductive AState where
  | idle | collect | discard
  deriving DecidableEq, Repr

/-- The decoder position and frame buffer of variant A (10_state.md R13, R14). -/
structure DecoderA where
  aState : AState
  aLen : BitVec 4
  aIdx : BitVec 4
  aDiscardRem : Counter
  aBuf : Memory
  deriving DecidableEq, Repr

/-- `b_idx`, the number of template bytes accumulated, 0..4 (10_state.md R15). -/
inductive BIdx where
  | i0 | i1 | i2 | i3 | i4
  deriving DecidableEq, Repr

/-- The decoder position of variant B and the two bytes it holds (10_state.md R15). -/
structure DecoderB where
  bIdx : BIdx
  bH : Byte
  bU : Byte
  deriving DecidableEq, Repr

/-- The Timer Process's own state and the two bits of the two-context discipline (10_state.md R16, R17). -/
structure Timer where
  prescaleCounter : BitVec 3
  resyncCounter : Counter
  wantResync : Bool
  tickPending : Bool
  timerMasked : Bool
  deriving DecidableEq, Repr

/-- One entry of the report trace: a condition and the byte recorded (60_exceptions.md R100). -/
structure Report where
  condition : Condition
  info : Byte
  deriving DecidableEq, Repr

/-- The outputs (00_scope.md R4; 10_state.md R19), oldest entry first, and the record of silent conditions
that a model may keep (60_exceptions.md R100; log 11). -/
structure Outputs where
  muxSlot : Slot
  txTrace : List Byte
  odTrace : List Slot
  reportTrace : List Report
  silentTrace : List Condition
  deriving DecidableEq, Repr

/-- What the surroundings give the block, each between two steps (00_scope.md R3; 60_exceptions.md section 4).
Log 7, log 8. -/
inductive Input where
  /-- The Byte Source delivers a byte; `fires` says whether the hardware timer fires while its step is in
  progress (20_memory.md R32). -/
  | rx (b : Byte) (fires : Bool)
  /-- The hardware timer fires between steps (60_exceptions.md R104). -/
  | timerFires
  /-- The receive loop looks at `want_resync` (43_timer.md R96). -/
  | receiveLoop (fires : Bool)
  /-- The Menu Controller enters Menu (60_exceptions.md R110). -/
  | enterMenu
  /-- The Menu Controller saves a record, in Menu (60_exceptions.md R110, R115). -/
  | menuSave (r : Record)
  /-- The Menu Controller of variant B drives the Output Driver, in Menu (60_exceptions.md R110). -/
  | menuDrive (c : Slot)
  /-- The Menu Controller hands control back (60_exceptions.md R111). -/
  | resume
  /-- A power cycle (70_reset_and_hazards.md R117). -/
  | powerUp
  deriving DecidableEq, Repr

/-- The whole state. `fixed`, `store`, `stimulus` and `drawCount` are not the block's registers: the constants
of the instance (R22), the Configuration Store's record (R5), the inputs still to come (log 7), and the number
of draws made (log 10). -/
structure State where
  fixed : Fixed
  store : Record
  stimulus : List Input
  drawCount : Nat
  mode : Mode
  latched : Latched
  camera : Camera
  token : Token
  tracking : Tracking
  decA : DecoderA
  decB : DecoderB
  timer : Timer
  out : Outputs
  deriving DecidableEq, Repr

/-- Why the machine stops with a fault. -/
inductive Fault where
  /-- Raised by A.COLLECT when `a_idx` is above 8: the frame buffer has no such byte (20_memory.md R28). The
  spec says an index is always in range, and no state that meets `State.Inv` raises it. Safe. Log 19. -/
  | frameIndexOutOfRange
  deriving DecidableEq, Repr

/-- Why the machine has no meaning for what it is given. -/
inductive Refusal where
  /-- Raised by an arm of `exec` that has no meaning yet. Safe. -/
  | notModelled (mnemonic : String)
  /-- Raised by RESET and RESUME on a record that breaks 10_state.md R5: no execution starts from it
  (92_eei_decisions.md D32). Safe. -/
  | illegalRecord
  /-- Raised by an event of one variant in an instance of the other, where it does not exist (00_scope.md R2).
  Safe. -/
  | notInThisVariant
  /-- Raised by RESYNC where it is not enabled (43_timer.md R96) and by RESUME outside Menu (60_exceptions.md
  R111). Safe. -/
  | notEnabled
  /-- Raised by a step on an input the surroundings are assumed never to give (60_exceptions.md section 4).
  Safe. Log 14. -/
  | outsideContract
  /-- What a step would answer for a byte without a row in the decoder position. Every byte has one (30_encoding.md
  R47), so no step answers it. Safe. Log 15. -/
  | undecodable
  deriving DecidableEq, Repr

/-- The outcome of an instruction. -/
abbrev Result := Host.Outcome State Fault Refusal

/-- The instance `State.reset` is in: variant A with the default parameters. DESIGN CHOICE, log 3, log 4. -/
def State.resetFixed : Fixed := { variant := .A, params := defaultParams }

/-- The record the Configuration Store holds at `State.reset`; the spec gives none (91_not_in_source.md N12).
DESIGN CHOICE, log 4. -/
def State.resetRecord : Record where
  selectedCamera := 1
  maxCamera := 4
  scanPeriodMultiplier := 0
  houseCode := .A
  idleMode := .none

/-- The state right after `Reset` (70_reset_and_hazards.md R118) with the record `State.resetRecord`: nothing
received, no tick pending, one Output Driver call made (R120). The registers R118 leaves unspecified hold 0
(DESIGN CHOICE, log 6), and the frame buffer lists nothing (log 5). -/
def State.reset : State where
  fixed := State.resetFixed
  store := State.resetRecord
  stimulus := []
  drawCount := 0
  mode := .run
  latched := { maxCamera := 4, scanPeriodMultiplier := 0, houseCode := .A, idleMode := .none }
  camera := { currentCamera := 1, scanActive := false, scanCycleCounter := 0, inactivityCounter := 0 }
  token := { dupValid := false, dupValue := 0 }
  tracking := { lastHouse := none, lastUnit := none }
  decA := { aState := .idle, aLen := 0, aIdx := 0, aDiscardRem := 0, aBuf := [] }
  decB := { bIdx := .i0, bH := 0, bU := 0 }
  timer := { prescaleCounter := 0, resyncCounter := 0, wantResync := false, tickPending := false,
             timerMasked := false }
  out := { muxSlot := 1, txTrace := [], odTrace := [1], reportTrace := [], silentTrace := [] }

end Sys2Proof.Machine
end

