-- ==== Sys2Proof/Machine/Flags.lean ====
section
/-! DEFINITION. The three flags (00_scope.md section 4): `scan_active`, `want_resync`, `dup_valid`; what sets,
clears and tests each. -/

namespace Sys2Proof.Machine

/-- `EnableScan()` on the shared state: the counter is cleared only when scanning goes from off to on
(42_interpreter.md R85). -/
def Camera.enableScan (c : Camera) : Camera :=
  if c.scanActive then c else { c with scanActive := true, scanCycleCounter := 0 }

/-- The part of `Select(c)` that writes the shared state (42_interpreter.md R84). -/
def Camera.select (n : Slot) (c : Camera) : Camera := { c with scanActive := false, currentCamera := n }

/-- The duplicate test (42_interpreter.md R76). -/
def Token.suppresses (t : Token) (raw : Byte) : Bool := t.dupValid && t.dupValue == raw

/-- The token after an event that passed the test (42_interpreter.md R76). -/
def Token.hold (raw : Byte) : Token := { dupValid := true, dupValue := raw }

/-- The token after a base tick (43_timer.md R92): `dup_value` keeps its byte. -/
def Token.clear (t : Token) : Token := { t with dupValid := false }

/-- Whether `ResyncStep` is enabled (43_timer.md R96). -/
def State.resyncEnabled (s : State) : Bool :=
  s.fixed.variant == .A && s.mode == .run && s.timer.wantResync && s.decA.aState == .idle

/-- Whether a deferred firing runs now: the timer event is enabled, not masked and pending (60_exceptions.md
R105). -/
def State.tickDue (s : State) : Bool :=
  s.mode == .run && s.timer.tickPending && !s.timer.timerMasked

end Sys2Proof.Machine
end

