-- ==== Sys2Proof/Machine/Memory.lean ====
section
/-! DEFINITION. The frame buffer `a_buf`, the block's only memory (10_state.md R14; 20_memory.md R28): one byte
at each of nine indices. -/

namespace Sys2Proof.Machine

/-- What an index that is not listed reads as. The spec leaves the buffer's contents before the first store
unspecified, and reads no byte before it is written (10_state.md R14). DESIGN CHOICE, log 5. -/
def Memory.unlisted : Byte := 0

/-- The byte at an index. -/
def Memory.read : Memory → Nat → Byte
  | [], _ => Memory.unlisted
  | (k, v) :: m, a => if k = a then v else Memory.read m a

/-- The contents after one byte is stored, in canonical form. -/
def Memory.write : Memory → Nat → Byte → Memory
  | [], a, v => if v = Memory.unlisted then [] else [(a, v)]
  | (k, w) :: m, a, v =>
    if a < k then (if v = Memory.unlisted then (k, w) :: m else (a, v) :: (k, w) :: m)
    else if a = k then (if v = Memory.unlisted then m else (a, v) :: m)
    else (k, w) :: Memory.write m a v

/-- The canonical form: indices strictly rising, no entry equal to what an unlisted index reads as. -/
abbrev Memory.wf (m : Memory) : Prop :=
  m.Pairwise (fun x y => x.1 < y.1) ∧ ∀ c ∈ m, c.2 ≠ Memory.unlisted

/-- Every listed index is one of the buffer's nine (10_state.md R14). -/
abbrev Memory.inBuffer (m : Memory) : Prop := ∀ c ∈ m, c.1 < Config.bufferBytes

end Sys2Proof.Machine
end

