-- ==== Sys2Proof/Machine/Ops.lean ====
section
/-! DEFINITION. The named operations the meanings are written over, each from the rule of spec/ it cites. -/

namespace Sys2Proof.Machine

/-! ## Outputs -/

/-- `Tx(b)` (00_scope.md section 7). -/
def State.tx (b : Byte) (s : State) : State := { s with out := { s.out with txTrace := s.out.txTrace ++ [b] } }

/-- A reply or request of several bytes, in the order listed (20_memory.md R24; 43_timer.md R96). -/
def State.txAll (bs : List Byte) (s : State) : State :=
  { s with out := { s.out with txTrace := s.out.txTrace ++ bs } }

/-- `OutputDriver(c)` (42_interpreter.md R88). -/
def State.outputDriver (c : Slot) (s : State) : State :=
  { s with out := { s.out with muxSlot := c, odTrace := s.out.odTrace ++ [c] } }

/-- `Report(E, b)`: transfers nothing (60_exceptions.md R100, R101). -/
def State.report (c : Condition) (b : Byte) (s : State) : State :=
  { s with out := { s.out with reportTrace := s.out.reportTrace ++ [{ condition := c, info := b }] } }

/-- A silent condition, kept in the model's own record (60_exceptions.md R100; log 11). -/
def State.note (c : Condition) (s : State) : State :=
  { s with out := { s.out with silentTrace := s.out.silentTrace ++ [c] } }

/-! ## Primitives of the interpreter, the timer and reset -/

/-- `Select(c)` (42_interpreter.md R84). -/
def State.select (c : Slot) (s : State) : State :=
  let t := { s with camera := s.camera.select c }
  if c = s.camera.currentCamera then t else t.outputDriver c

/-- `EnableScan()` (42_interpreter.md R85). -/
def State.enableScan (s : State) : State := { s with camera := s.camera.enableScan }

/-- `ApplyIdlePolicy()` (42_interpreter.md R86). -/
def State.applyIdlePolicy (s : State) : State :=
  match s.latched.idleMode with
  | .scan => s.enableScan
  | .priorityCamera => s.select 1
  | .none => s

/-- The first effect of every command that has a row (42_interpreter.md R77). -/
def State.qualify (s : State) : State := { s with camera := { s.camera with inactivityCounter := 0 } }

/-- What each command does (42_interpreter.md R77, the `case`). -/
def State.perform (c : Command) (s : State) : State :=
  match c with
  | .camOn n => s.select n
  | .scanOn => s.enableScan
  | .stepPrev => s.select (prevSlot s.latched.maxCamera s.camera.currentCamera)
  | .camOff n => if s.camera.currentCamera = n then s.applyIdlePolicy else s
  | .allOff => s.select 0
  | .stepNext => s.select (nextSlot s.latched.maxCamera s.camera.currentCamera)

/-- A command that has a row: it restarts the inactivity count and is performed (42_interpreter.md R77). -/
def State.command (c : Command) (s : State) : State := s.qualify.perform c

/-- `Action(u, op)` (42_interpreter.md R77, R89). -/
def State.action (u : Option UnitNo) (op : Op) (s : State) : State :=
  match u with
  | none => s.note .noRow
  | some u =>
    match actionRow s.latched.maxCamera u op with
    | none => s.note .noRow
    | some c => s.command c

/-! ## The interpreter -/

/-- The house filter: only an event of the configured house goes on (42_interpreter.md R72). -/
def State.houseFilter (letter : House) (event : State → State) (s : State) : State :=
  if letter = s.latched.houseCode then event s else s.note .foreign

/-- `AddressEvent` (42_interpreter.md R73). -/
def State.addressEvent (letter : House) (device : Nibble) (s : State) : State :=
  { s with tracking := { lastHouse := some letter, lastUnit := some (s.fixed.params.unitA device) } }

/-- `FunctionEvent`, on the name of the function code (42_interpreter.md R74, R75). -/
def State.functionEvent (f : FuncName) (s : State) : State :=
  match f with
  | .on => s.action s.tracking.lastUnit .on
  | .off => s.action s.tracking.lastUnit .off
  | .allUnitsOff | .allLightsOn | .dim | .bright | .allLightsOff | .extCode | .hailReq | .hailAck
  | .presetDim1 | .presetDim2 | .extData | .statusOn | .statusOff | .statusReq => s.note .noRow

/-- An Address payload with its two raw nibbles (42_interpreter.md R72, R73). -/
def State.addressA (h d : Nibble) (s : State) : State :=
  s.houseFilter (s.fixed.params.letterA h) (State.addressEvent (s.fixed.params.letterA h) d)

/-- A Function payload with its raw house nibble and its code's name (42_interpreter.md R72, R74, R75). -/
def State.functionA (h : Nibble) (f : FuncName) (s : State) : State :=
  s.houseFilter (s.fixed.params.letterA h) (State.functionEvent f)

/-- `InterpA(kind, p)` (42_interpreter.md R72). -/
def State.interpA (kind : Kind) (p : Byte) (s : State) : State :=
  match kind with
  | .address => s.addressA (hiNibble p) (loNibble p)
  | .function => s.functionA (hiNibble p) (s.fixed.params.funcName (loNibble p))

/-- `EventB(unit_raw)` with the entry of `UNIT_RAW_TABLE_B` it looks up: duplicate test, token update, action
(42_interpreter.md R76). -/
def State.eventRow (raw : Byte) (row : Option (Fin 6 × Op)) (s : State) : State :=
  if s.token.suppresses raw then s.note .duplicate
  else
    let t := { s with token := Token.hold raw }
    match row with
    | none => t.note .noRow
    | some (k, op) => t.action (some (unitOfIndex k)) op

/-- `EventB(unit_raw)` (42_interpreter.md R76). -/
def State.eventB (raw : Byte) (s : State) : State := s.eventRow raw (s.fixed.params.unitRow raw)

/-- `InterpB(letter, unit_raw)` (42_interpreter.md R72). -/
def State.interpB (letter : House) (raw : Byte) (s : State) : State :=
  s.houseFilter letter (State.eventB raw)

/-- `EmitB(h, u)` (41_decoder_b.md R71). -/
def State.emitB (h u : Byte) (s : State) : State := s.interpB (s.fixed.params.letterB (hiNibble h)) u

/-! ## The Frame Decoder, variant A -/

/-- `A.LEN` with N (40_decoder_a.md R56). -/
def State.startFrame (n : BitVec 4) (s : State) : State :=
  { s with decA := { s.decA with aState := .collect, aLen := n, aIdx := 0 } }

/-- A draw in `0 .. bound`: the free value, within the bound the rule sets (40_decoder_a.md R57; log 10). -/
def State.drawn (bound : Nat) (s : State) : Nat := Config.freeDraw s.drawCount % (bound + 1)

/-- `A.DESYNC` with the draw `d` (40_decoder_a.md R57). -/
def State.desync (b : Byte) (d : Nat) (s : State) : State :=
  let t := s.report .desync b
  { t with drawCount := s.drawCount + 1,
           decA := { s.decA with aDiscardRem := BitVec.ofNat 8 d,
                                 aState := if d = 0 then .idle else .discard } }

/-- The decoded events of the frame in the buffer, in payload order (40_decoder_a.md R59). -/
def State.frameEvents (s : State) : List (Kind × Byte) :=
  (List.range (s.decA.aLen.toNat - 1)).map fun j =>
    (maskKind (s.decA.aBuf.read 0) (j + s.fixed.params.maskBitOffset), s.decA.aBuf.read (j + 1))

/-- Interpreting decoded events one after the other (40_decoder_a.md R59; 20_memory.md R27). -/
def State.interpAll (es : List (Kind × Byte)) (s : State) : State :=
  es.foldl (fun t e => t.interpA e.1 e.2) s

/-- The decoder of variant A back at a frame boundary. -/
def State.toBoundaryA (s : State) : State := { s with decA := { s.decA with aState := .idle } }

/-- `FrameDone()` (40_decoder_a.md R59). -/
def State.frameDone (s : State) : State := (s.interpAll s.frameEvents).toBoundaryA

/-- The store of `A.COLLECT` (40_decoder_a.md R58). -/
def State.storeByte (b : Byte) (s : State) : State :=
  { s with decA := { s.decA with aBuf := s.decA.aBuf.write s.decA.aIdx.toNat b, aIdx := s.decA.aIdx + 1 } }

/-- `A.COLLECT`: the store, and `FrameDone` when the byte was the frame's last (40_decoder_a.md R51, R58). -/
def State.collect (b : Byte) (s : State) : Result :=
  if s.decA.aIdx.toNat < Config.bufferBytes then
    .next (if s.decA.aIdx + 1 = s.decA.aLen then (s.storeByte b).frameDone else s.storeByte b)
  else .fault .frameIndexOutOfRange

/-- `A.DISCARD` (40_decoder_a.md R60). -/
def State.discard (s : State) : State :=
  let r := s.decA.aDiscardRem - 1
  { s with decA := { s.decA with aDiscardRem := r, aState := if r = 0 then .idle else s.decA.aState } }

/-! ## The Frame Decoder, variant B -/

/-- `b_idx <- k`. -/
def State.setBIdx (k : BIdx) (s : State) : State := { s with decB := { s.decB with bIdx := k } }

/-- A byte that fails its template position: silent, accumulation back to empty (41_decoder_b.md R65, R66, R69;
60_exceptions.md R100). -/
def State.mismatch (s : State) : State := (s.setBIdx .i0).note .malformed

/-- `B.P1`, position 0 (41_decoder_b.md R65). -/
def State.posP1 (b : Byte) (s : State) : State := if b = 0xD5 then s.setBIdx .i1 else s.mismatch

/-- `B.P2`, position 1 (41_decoder_b.md R66). -/
def State.posP2 (b : Byte) (s : State) : State := if b = 0xAA then s.setBIdx .i2 else s.mismatch

/-- `B.H`, position 2 (41_decoder_b.md R67). -/
def State.posH (b : Byte) (s : State) : State := { s with decB := { s.decB with bIdx := .i3, bH := b } }

/-- `B.U`, position 3 (41_decoder_b.md R68). -/
def State.posU (b : Byte) (s : State) : State := { s with decB := { s.decB with bIdx := .i4, bU := b } }

/-- `B.P3`, position 4 (41_decoder_b.md R69). -/
def State.posP3 (b : Byte) (s : State) : State :=
  if b = 0xAD then (s.emitB s.decB.bH s.decB.bU).setBIdx .i0 else s.mismatch

/-- `DecB(b)` (41_decoder_b.md R64). -/
def State.decodeB (b : Byte) (s : State) : State :=
  match s.decB.bIdx with
  | .i0 => s.posP1 b
  | .i1 => s.posP2 b
  | .i2 => s.posH b
  | .i3 => s.posU b
  | .i4 => s.posP3 b

/-- Bytes received one after the other in variant B. -/
def State.decodeAllB (bs : List Byte) (s : State) : State := bs.foldl (fun t b => t.decodeB b) s

/-! ## The Timer Process -/

/-- `ScanTick()` (43_timer.md R93). -/
def State.scanTick (s : State) : State :=
  let n := s.camera.scanCycleCounter + 1
  if s.fixed.params.scanTicks s.latched.scanPeriodMultiplier ≤ n.toNat then
    let c := nextSlot s.latched.maxCamera s.camera.currentCamera
    State.outputDriver c { s with camera := { s.camera with currentCamera := c, scanCycleCounter := 0 } }
  else { s with camera := { s.camera with scanCycleCounter := n } }

/-- The count of `IdleTick()` set to a value (43_timer.md R94). -/
def State.setInactivity (n : Counter) (s : State) : State :=
  { s with camera := { s.camera with inactivityCounter := n } }

/-- `IdleTick()` (43_timer.md R94). -/
def State.idleTick (s : State) : State :=
  let n := s.camera.inactivityCounter + 1
  if s.fixed.params.inactivityThreshold < n.toNat then ((s.setInactivity n).applyIdlePolicy).setInactivity 0
  else s.setInactivity n

/-- `ResyncTick()` (43_timer.md R95). -/
def State.resyncTick (s : State) : State :=
  let n := s.timer.resyncCounter + 1
  if s.fixed.params.resyncThreshold ≤ n.toNat then
    { s with timer := { s.timer with wantResync := true, resyncCounter := 0 } }
  else { s with timer := { s.timer with resyncCounter := n } }

/-- The first two parts of a slow tick: exactly one of the two runs (43_timer.md R91). -/
def State.scanOrIdleTick (s : State) : State := if s.camera.scanActive then s.scanTick else s.idleTick

/-- `SlowTick()` (43_timer.md R91). -/
def State.slowTick (s : State) : State :=
  match s.fixed.variant with
  | .A => s.scanOrIdleTick.resyncTick
  | .B => s.scanOrIdleTick

/-- Running the TickStep is what clears the pending firing (60_exceptions.md R105). -/
def State.clearPending (s : State) : State := { s with timer := { s.timer with tickPending := false } }

/-- `TickStep`, variant A (43_timer.md R91). -/
def State.tickStepA (s : State) : State := s.clearPending.slowTick

/-- `TickStep`, variant B (43_timer.md R92). -/
def State.tickStepB (s : State) : State :=
  let t := { s.clearPending with token := s.token.clear }
  let n := s.timer.prescaleCounter + 1
  if n.toNat = Config.prescale then
    State.slowTick { t with timer := { t.timer with prescaleCounter := 0 } }
  else { t with timer := { t.timer with prescaleCounter := n } }

/-- `ResyncStep` (43_timer.md R96). -/
def State.resyncStep (s : State) : State :=
  State.txAll s.fixed.params.resyncTx { s with timer := { s.timer with wantResync := false } }

/-! ## The timer event and the mask -/

/-- The hardware timer fires: remembered in Run, whether or not the event is masked, one firing deep; in Menu
the timer is disabled (60_exceptions.md R105, R110; 20_memory.md R32). -/
def State.timerFires (s : State) : State :=
  match s.mode with
  | .run => { s with timer := { s.timer with tickPending := true } }
  | .menu => s

/-- Entry of a step of the main context (20_memory.md R31; log 9). -/
def State.mask (s : State) : State := { s with timer := { s.timer with timerMasked := true } }

/-- Exit of a step of the main context (20_memory.md R31). -/
def State.unmask (s : State) : State := { s with timer := { s.timer with timerMasked := false } }

/-- Entry of a step of the main context during which the hardware timer may fire. -/
def State.enterMain (fires : Bool) (s : State) : State := if fires then s.mask.timerFires else s.mask

/-! ## Modes, reset -/

/-- The transition Run to Menu: a pending firing is dropped (60_exceptions.md R110; 92_eei_decisions.md D30). -/
def State.enterMenu (s : State) : State :=
  { s with mode := .menu, timer := { s.timer with tickPending := false } }

/-- `InitIdlePolicy()` (70_reset_and_hazards.md R119). -/
def Camera.initIdlePolicy (m : IdleMode) (c : Camera) : Camera :=
  match m with
  | .scan => { c with scanActive := true }
  | .priorityCamera => { c with currentCamera := 1 }
  | .none => c

/-- The shared state a launch starts from (70_reset_and_hazards.md R117, R119). -/
def initialCamera (r : Record) : Camera :=
  Camera.initIdlePolicy r.idleMode
    { currentCamera := BitVec.ofNat 3 r.selectedCamera, scanActive := false, scanCycleCounter := 0,
      inactivityCounter := 0 }

/-- The sequence of `Reset(cfg)` (70_reset_and_hazards.md R117, R119, R120). It writes the registers of both
variants; those of the other variant take no part (log 18). -/
def State.launch (r : Record) (s : State) : State :=
  State.outputDriver (initialCamera r).currentCamera
    { s with
      mode := .run
      latched := { maxCamera := BitVec.ofNat 3 r.maxCamera,
                   scanPeriodMultiplier := Fin.ofNat 6 r.scanPeriodMultiplier,
                   houseCode := r.houseCode, idleMode := r.idleMode }
      camera := initialCamera r
      token := { s.token with dupValid := false }
      tracking := { lastHouse := none, lastUnit := none }
      decA := { s.decA with aState := .idle, aLen := 0, aIdx := 0, aDiscardRem := 0 }
      decB := { s.decB with bIdx := .i0 }
      timer := { prescaleCounter := 0, resyncCounter := 0, wantResync := false, tickPending := false,
                 timerMasked := false } }

/-- What a power cycle does to the state that R117 does not write: the traces begin anew, and the registers R118
leaves unspecified hold the values State.reset names (70_reset_and_hazards.md R118; log 5, log 6, log 12,
log 25). -/
def State.powerLoss (s : State) : State :=
  { s with
    token := State.reset.token
    decA := State.reset.decA
    decB := State.reset.decB
    out := { muxSlot := 0, txTrace := [], odTrace := [], reportTrace := [], silentTrace := [] } }

/-! ## Where an instruction exists -/

/-- An event of one variant does not exist in an instance of the other (00_scope.md R2). -/
def State.inVariant (v : Variant) (s : State) (r : Result) : Result :=
  if s.fixed.variant = v then r else .refused .notInThisVariant

end Sys2Proof.Machine
end

