-- ==== Sys2Proof/Machine/Commands.lean ====
section
/-! DEFINITION. The commands of the action table, both variants (42_interpreter.md section 4), given as a unit and an operation. -/

namespace Sys2Proof.Machine

/-- CAM.ON 1 (42_interpreter.md R78; no row above `max_camera`, R89). -/
def execCamOn1 (s : State) : Result := .next (s.action (some 1) .on)

/-- CAM.ON 2 (42_interpreter.md R78; no row above `max_camera`, R89). -/
def execCamOn2 (s : State) : Result := .next (s.action (some 2) .on)

/-- CAM.ON 3 (42_interpreter.md R78; no row above `max_camera`, R89). -/
def execCamOn3 (s : State) : Result := .next (s.action (some 3) .on)

/-- CAM.ON 4 (42_interpreter.md R78; no row above `max_camera`, R89). -/
def execCamOn4 (s : State) : Result := .next (s.action (some 4) .on)

/-- SCAN.ON, unit 5 ON (42_interpreter.md R79). -/
def execScanOn (s : State) : Result := .next (s.action (some 5) .on)

/-- STEP.PREV, unit 6 ON (42_interpreter.md R80). -/
def execStepPrev (s : State) : Result := .next (s.action (some 6) .on)

/-- CAM.OFF 1 (42_interpreter.md R81; no row above `max_camera`, R89). -/
def execCamOff1 (s : State) : Result := .next (s.action (some 1) .off)

/-- CAM.OFF 2 (42_interpreter.md R81; no row above `max_camera`, R89). -/
def execCamOff2 (s : State) : Result := .next (s.action (some 2) .off)

/-- CAM.OFF 3 (42_interpreter.md R81; no row above `max_camera`, R89). -/
def execCamOff3 (s : State) : Result := .next (s.action (some 3) .off)

/-- CAM.OFF 4 (42_interpreter.md R81; no row above `max_camera`, R89). -/
def execCamOff4 (s : State) : Result := .next (s.action (some 4) .off)

/-- ALL.OFF, unit 5 OFF (42_interpreter.md R82). -/
def execAllOff (s : State) : Result := .next (s.action (some 5) .off)

/-- STEP.NEXT, unit 6 OFF (42_interpreter.md R83). -/
def execStepNext (s : State) : Result := .next (s.action (some 6) .off)

/-- NOROW: nothing is written, whatever the operation and unit field are (42_interpreter.md R89; 30_encoding.md
R50). -/
def execNoRow (_o : Op) (_u : Nibble) (s : State) : Result := .next (s.note .noRow)

end Sys2Proof.Machine
end

