-- ==== Sys2Proof/Machine/DataA.lean ====
section
/-! DEFINITION. The bytes inside a frame and inside the recovery window of variant A (40_decoder_a.md section 3). -/

namespace Sys2Proof.Machine

/-- A.COLLECT, and A.FRAMEDONE at the last byte of the frame (40_decoder_a.md R58, R59). -/
def execACollect (b : Byte) (s : State) : Result := s.inVariant .A (s.collect b)

/-- A.DISCARD: the byte is dropped, whatever it is (40_decoder_a.md R60). -/
def execADiscard (_b : Byte) (s : State) : Result := s.inVariant .A (.next s.discard)

end Sys2Proof.Machine
end

