-- ==== Sys2Proof/Machine/DecoderB.lean ====
section
/-! DEFINITION. The five template positions of variant B and the whole frame (41_decoder_b.md). -/

namespace Sys2Proof.Machine

/-- B.P1: the marker (41_decoder_b.md R65). -/
def execBP1 (s : State) : Result := s.inVariant .B (.next (s.posP1 0xD5))

/-- B.P1.MISS: a byte that is not the marker (41_decoder_b.md R65, R70). -/
def execBP1Miss (b : Byte) (s : State) : Result := s.inVariant .B (.next (s.posP1 b))

/-- B.P2: the marker (41_decoder_b.md R66). -/
def execBP2 (s : State) : Result := s.inVariant .B (.next (s.posP2 0xAA))

/-- B.P2.MISS: a byte that is not the marker (41_decoder_b.md R66, R70). -/
def execBP2Miss (b : Byte) (s : State) : Result := s.inVariant .B (.next (s.posP2 b))

/-- B.H (41_decoder_b.md R67). -/
def execBH (h : Nibble) (x : Nibble) (s : State) : Result := s.inVariant .B (.next (s.posH (joinNibbles h x)))

/-- B.U (41_decoder_b.md R68). -/
def execBU (u : Byte) (s : State) : Result := s.inVariant .B (.next (s.posU u))

/-- B.P3: the event is emitted and interpreted (41_decoder_b.md R69, R71). -/
def execBP3 (s : State) : Result := s.inVariant .B (.next (s.posP3 0xAD))

/-- B.P3.MISS (41_decoder_b.md R69, R70). -/
def execBP3Miss (b : Byte) (s : State) : Result := s.inVariant .B (.next (s.posP3 b))

/-- B.FRAME: the five bytes `D5 AA H U AD` received one after the other (30_encoding.md R43, R50; 41_decoder_b.md
R64, R71; log 17). -/
def execBFrame (h : Nibble) (x : Nibble) (u : Byte) (s : State) : Result := 
  s.inVariant .B (.next (s.decodeAllB [0xD5, 0xAA, joinNibbles h x, u, 0xAD]))

end Sys2Proof.Machine
end

