-- ==== Sys2Proof/Machine/Events.lean ====
section
/-! DEFINITION. The events that carry no byte: ticks, the resync request, reset and resume. -/

namespace Sys2Proof.Machine

/-- TICK.A (43_timer.md R91). -/
def execTickA (s : State) : Result := s.inVariant .A (.next s.tickStepA)

/-- TICK.B (43_timer.md R92). -/
def execTickB (s : State) : Result := s.inVariant .B (.next s.tickStepB)

/-- RESYNC (43_timer.md R96). -/
def execResync (s : State) : Result := 
  s.inVariant .A (if s.resyncEnabled then .next s.resyncStep else .refused .notEnabled)

/-- RESET (70_reset_and_hazards.md R117); an illegal record is refused (10_state.md R5). -/
def execReset (cfg : Record) (s : State) : Result := 
  if cfg.Legal then .next (s.powerLoss.launch cfg) else .refused .illegalRecord

/-- RESUME: Menu to Run, variant B only (60_exceptions.md R111); an illegal record is refused (10_state.md R5). -/
def execResume (cfg : Record) (s : State) : Result := 
  s.inVariant .B
    (if s.mode = .menu then (if cfg.Legal then .next (s.launch cfg) else .refused .illegalRecord)
     else .refused .notEnabled)

end Sys2Proof.Machine
end

