-- ==== Sys2Proof/Machine/FirstA.lean ====
section
/-! DEFINITION. The first-byte events of variant A: handshakes, length prefixes, desynchronization (40_decoder_a.md section 2). -/

namespace Sys2Proof.Machine

/-- A.POLL (40_decoder_a.md R52). -/
def execAPoll (s : State) : Result := s.inVariant .A (.next (s.tx 0xC3))

/-- A.NULL (40_decoder_a.md R53). -/
def execANull (s : State) : Result := s.inVariant .A (.next (s.tx 0x00))

/-- A.TIMEREQ (40_decoder_a.md R54; 20_memory.md R24). -/
def execATimereq (s : State) : Result := 
  s.inVariant .A (.next (s.txAll [0x9B, 0x00, 0x00, 0x00, 0x00, 0x00, 0x00]))

/-- A.READY: nothing is written (40_decoder_a.md R55). -/
def execAReady (s : State) : Result := s.inVariant .A (.next s)

/-- A.LEN with N = 1 (40_decoder_a.md R56). -/
def execALen1 (s : State) : Result := s.inVariant .A (.next (s.startFrame 1))

/-- A.LEN with N = 2 (40_decoder_a.md R56). -/
def execALen2 (s : State) : Result := s.inVariant .A (.next (s.startFrame 2))

/-- A.LEN with N = 3 (40_decoder_a.md R56). -/
def execALen3 (s : State) : Result := s.inVariant .A (.next (s.startFrame 3))

/-- A.LEN with N = 4 (40_decoder_a.md R56). -/
def execALen4 (s : State) : Result := s.inVariant .A (.next (s.startFrame 4))

/-- A.LEN with N = 5 (40_decoder_a.md R56). -/
def execALen5 (s : State) : Result := s.inVariant .A (.next (s.startFrame 5))

/-- A.LEN with N = 6 (40_decoder_a.md R56). -/
def execALen6 (s : State) : Result := s.inVariant .A (.next (s.startFrame 6))

/-- A.LEN with N = 7 (40_decoder_a.md R56). -/
def execALen7 (s : State) : Result := s.inVariant .A (.next (s.startFrame 7))

/-- A.LEN with N = 8 (40_decoder_a.md R56). -/
def execALen8 (s : State) : Result := s.inVariant .A (.next (s.startFrame 8))

/-- A.LEN with N = 9 (40_decoder_a.md R56). -/
def execALen9 (s : State) : Result := s.inVariant .A (.next (s.startFrame 9))

/-- A.DESYNC: the number of bytes to discard is drawn within `RECOVERY_WINDOW` (40_decoder_a.md R57). -/
def execADesync (b : Byte) (s : State) : Result := 
  s.inVariant .A (.next (s.desync b (s.drawn s.fixed.params.recoveryWindow)))

end Sys2Proof.Machine
end

