-- ==== Sys2Proof/Machine/PayloadA.lean ====
section
/-! DEFINITION. The decoded events of variant A (42_interpreter.md sections 1 and 2), each behind the house filter. -/

namespace Sys2Proof.Machine

/-- A.ADDRESS (42_interpreter.md R72, R73). -/
def execAAddress (h : Nibble) (d : Nibble) (s : State) : Result := 
  s.inVariant .A (.next (s.addressA h d))

/-- A.FUNC.ON (42_interpreter.md R72, R74). -/
def execAFuncOn (h : Nibble) (s : State) : Result := 
  s.inVariant .A (.next (s.functionA h .on))

/-- A.FUNC.OFF (42_interpreter.md R72, R74). -/
def execAFuncOff (h : Nibble) (s : State) : Result := 
  s.inVariant .A (.next (s.functionA h .off))

/-- A.FUNC.ALLUNITSOFF (42_interpreter.md R72, R75). -/
def execAFuncAllUnitsOff (h : Nibble) (s : State) : Result := 
  s.inVariant .A (.next (s.functionA h .allUnitsOff))

/-- A.FUNC.ALLLIGHTSON (42_interpreter.md R72, R75). -/
def execAFuncAllLightsOn (h : Nibble) (s : State) : Result := 
  s.inVariant .A (.next (s.functionA h .allLightsOn))

/-- A.FUNC.DIM (42_interpreter.md R72, R75). -/
def execAFuncDim (h : Nibble) (s : State) : Result := 
  s.inVariant .A (.next (s.functionA h .dim))

/-- A.FUNC.BRIGHT (42_interpreter.md R72, R75). -/
def execAFuncBright (h : Nibble) (s : State) : Result := 
  s.inVariant .A (.next (s.functionA h .bright))

/-- A.FUNC.ALLLIGHTSOFF (42_interpreter.md R72, R75). -/
def execAFuncAllLightsOff (h : Nibble) (s : State) : Result := 
  s.inVariant .A (.next (s.functionA h .allLightsOff))

/-- A.FUNC.EXTCODE (42_interpreter.md R72, R75). -/
def execAFuncExtCode (h : Nibble) (s : State) : Result := 
  s.inVariant .A (.next (s.functionA h .extCode))

/-- A.FUNC.HAILREQ (42_interpreter.md R72, R75). -/
def execAFuncHailReq (h : Nibble) (s : State) : Result := 
  s.inVariant .A (.next (s.functionA h .hailReq))

/-- A.FUNC.HAILACK (42_interpreter.md R72, R75). -/
def execAFuncHailAck (h : Nibble) (s : State) : Result := 
  s.inVariant .A (.next (s.functionA h .hailAck))

/-- A.FUNC.PRESETDIM1 (42_interpreter.md R72, R75). -/
def execAFuncPresetDim1 (h : Nibble) (s : State) : Result := 
  s.inVariant .A (.next (s.functionA h .presetDim1))

/-- A.FUNC.PRESETDIM2 (42_interpreter.md R72, R75). -/
def execAFuncPresetDim2 (h : Nibble) (s : State) : Result := 
  s.inVariant .A (.next (s.functionA h .presetDim2))

/-- A.FUNC.EXTDATA (42_interpreter.md R72, R75). -/
def execAFuncExtData (h : Nibble) (s : State) : Result := 
  s.inVariant .A (.next (s.functionA h .extData))

/-- A.FUNC.STATUSON (42_interpreter.md R72, R75). -/
def execAFuncStatusOn (h : Nibble) (s : State) : Result := 
  s.inVariant .A (.next (s.functionA h .statusOn))

/-- A.FUNC.STATUSOFF (42_interpreter.md R72, R75). -/
def execAFuncStatusOff (h : Nibble) (s : State) : Result := 
  s.inVariant .A (.next (s.functionA h .statusOff))

/-- A.FUNC.STATUSREQ (42_interpreter.md R72, R75). -/
def execAFuncStatusReq (h : Nibble) (s : State) : Result := 
  s.inVariant .A (.next (s.functionA h .statusReq))

end Sys2Proof.Machine
end

