-- ==== Sys2Proof/Machine/UnitB.lean ====
section
/-! DEFINITION. The `U` byte of a complete frame of the configured house, variant B (42_interpreter.md R76). -/

namespace Sys2Proof.Machine

/-- B.U1.ON (42_interpreter.md R76, R78). -/
def execBU1On (s : State) : Result := 
  s.inVariant .B (.next (s.eventRow (s.fixed.params.unitCode 0 .on) (some (0, .on))))

/-- B.U1.OFF (42_interpreter.md R76, R81). -/
def execBU1Off (s : State) : Result := 
  s.inVariant .B (.next (s.eventRow (s.fixed.params.unitCode 0 .off) (some (0, .off))))

/-- B.U2.ON (42_interpreter.md R76, R78). -/
def execBU2On (s : State) : Result := 
  s.inVariant .B (.next (s.eventRow (s.fixed.params.unitCode 1 .on) (some (1, .on))))

/-- B.U2.OFF (42_interpreter.md R76, R81). -/
def execBU2Off (s : State) : Result := 
  s.inVariant .B (.next (s.eventRow (s.fixed.params.unitCode 1 .off) (some (1, .off))))

/-- B.U3.ON (42_interpreter.md R76, R78). -/
def execBU3On (s : State) : Result := 
  s.inVariant .B (.next (s.eventRow (s.fixed.params.unitCode 2 .on) (some (2, .on))))

/-- B.U3.OFF (42_interpreter.md R76, R81). -/
def execBU3Off (s : State) : Result := 
  s.inVariant .B (.next (s.eventRow (s.fixed.params.unitCode 2 .off) (some (2, .off))))

/-- B.U4.ON (42_interpreter.md R76, R78). -/
def execBU4On (s : State) : Result := 
  s.inVariant .B (.next (s.eventRow (s.fixed.params.unitCode 3 .on) (some (3, .on))))

/-- B.U4.OFF (42_interpreter.md R76, R81). -/
def execBU4Off (s : State) : Result := 
  s.inVariant .B (.next (s.eventRow (s.fixed.params.unitCode 3 .off) (some (3, .off))))

/-- B.U5.ON (42_interpreter.md R76, R79). -/
def execBU5On (s : State) : Result := 
  s.inVariant .B (.next (s.eventRow (s.fixed.params.unitCode 4 .on) (some (4, .on))))

/-- B.U5.OFF (42_interpreter.md R76, R82). -/
def execBU5Off (s : State) : Result := 
  s.inVariant .B (.next (s.eventRow (s.fixed.params.unitCode 4 .off) (some (4, .off))))

/-- B.U6.ON (42_interpreter.md R76, R80). -/
def execBU6On (s : State) : Result := 
  s.inVariant .B (.next (s.eventRow (s.fixed.params.unitCode 5 .on) (some (5, .on))))

/-- B.U6.OFF (42_interpreter.md R76, R83). -/
def execBU6Off (s : State) : Result := 
  s.inVariant .B (.next (s.eventRow (s.fixed.params.unitCode 5 .off) (some (5, .off))))

/-- B.U.OTHER: no entry in the table (42_interpreter.md R76). -/
def execBUOther (u : Byte) (s : State) : Result := s.inVariant .B (.next (s.eventRow u none))

end Sys2Proof.Machine
end

