-- ==== Sys2Proof/Machine/Dispatch.lean ====
section
/-! DEFINITION. One arm for each instruction, each a call of its meaning. -/

namespace Sys2Proof.Machine

def exec (i : Instr) (s : State) : Host.Outcome State Fault Refusal :=
  match i with
  | .aPoll => Sys2Proof.Machine.execAPoll s
  | .aNull => Sys2Proof.Machine.execANull s
  | .aTimereq => Sys2Proof.Machine.execATimereq s
  | .aReady => Sys2Proof.Machine.execAReady s
  | .aLen1 => Sys2Proof.Machine.execALen1 s
  | .aLen2 => Sys2Proof.Machine.execALen2 s
  | .aLen3 => Sys2Proof.Machine.execALen3 s
  | .aLen4 => Sys2Proof.Machine.execALen4 s
  | .aLen5 => Sys2Proof.Machine.execALen5 s
  | .aLen6 => Sys2Proof.Machine.execALen6 s
  | .aLen7 => Sys2Proof.Machine.execALen7 s
  | .aLen8 => Sys2Proof.Machine.execALen8 s
  | .aLen9 => Sys2Proof.Machine.execALen9 s
  | .aDesync b => Sys2Proof.Machine.execADesync b s
  | .aCollect b => Sys2Proof.Machine.execACollect b s
  | .aDiscard b => Sys2Proof.Machine.execADiscard b s
  | .aAddress h d => Sys2Proof.Machine.execAAddress h d s
  | .aFuncOn h => Sys2Proof.Machine.execAFuncOn h s
  | .aFuncOff h => Sys2Proof.Machine.execAFuncOff h s
  | .aFuncAllUnitsOff h => Sys2Proof.Machine.execAFuncAllUnitsOff h s
  | .aFuncAllLightsOn h => Sys2Proof.Machine.execAFuncAllLightsOn h s
  | .aFuncDim h => Sys2Proof.Machine.execAFuncDim h s
  | .aFuncBright h => Sys2Proof.Machine.execAFuncBright h s
  | .aFuncAllLightsOff h => Sys2Proof.Machine.execAFuncAllLightsOff h s
  | .aFuncExtCode h => Sys2Proof.Machine.execAFuncExtCode h s
  | .aFuncHailReq h => Sys2Proof.Machine.execAFuncHailReq h s
  | .aFuncHailAck h => Sys2Proof.Machine.execAFuncHailAck h s
  | .aFuncPresetDim1 h => Sys2Proof.Machine.execAFuncPresetDim1 h s
  | .aFuncPresetDim2 h => Sys2Proof.Machine.execAFuncPresetDim2 h s
  | .aFuncExtData h => Sys2Proof.Machine.execAFuncExtData h s
  | .aFuncStatusOn h => Sys2Proof.Machine.execAFuncStatusOn h s
  | .aFuncStatusOff h => Sys2Proof.Machine.execAFuncStatusOff h s
  | .aFuncStatusReq h => Sys2Proof.Machine.execAFuncStatusReq h s
  | .bP1 => Sys2Proof.Machine.execBP1 s
  | .bP1Miss b => Sys2Proof.Machine.execBP1Miss b s
  | .bP2 => Sys2Proof.Machine.execBP2 s
  | .bP2Miss b => Sys2Proof.Machine.execBP2Miss b s
  | .bH h x => Sys2Proof.Machine.execBH h x s
  | .bU u => Sys2Proof.Machine.execBU u s
  | .bP3 => Sys2Proof.Machine.execBP3 s
  | .bP3Miss b => Sys2Proof.Machine.execBP3Miss b s
  | .bFrame h x u => Sys2Proof.Machine.execBFrame h x u s
  | .bU1On => Sys2Proof.Machine.execBU1On s
  | .bU1Off => Sys2Proof.Machine.execBU1Off s
  | .bU2On => Sys2Proof.Machine.execBU2On s
  | .bU2Off => Sys2Proof.Machine.execBU2Off s
  | .bU3On => Sys2Proof.Machine.execBU3On s
  | .bU3Off => Sys2Proof.Machine.execBU3Off s
  | .bU4On => Sys2Proof.Machine.execBU4On s
  | .bU4Off => Sys2Proof.Machine.execBU4Off s
  | .bU5On => Sys2Proof.Machine.execBU5On s
  | .bU5Off => Sys2Proof.Machine.execBU5Off s
  | .bU6On => Sys2Proof.Machine.execBU6On s
  | .bU6Off => Sys2Proof.Machine.execBU6Off s
  | .bUOther u => Sys2Proof.Machine.execBUOther u s
  | .camOn1 => Sys2Proof.Machine.execCamOn1 s
  | .camOn2 => Sys2Proof.Machine.execCamOn2 s
  | .camOn3 => Sys2Proof.Machine.execCamOn3 s
  | .camOn4 => Sys2Proof.Machine.execCamOn4 s
  | .scanOn => Sys2Proof.Machine.execScanOn s
  | .stepPrev => Sys2Proof.Machine.execStepPrev s
  | .camOff1 => Sys2Proof.Machine.execCamOff1 s
  | .camOff2 => Sys2Proof.Machine.execCamOff2 s
  | .camOff3 => Sys2Proof.Machine.execCamOff3 s
  | .camOff4 => Sys2Proof.Machine.execCamOff4 s
  | .allOff => Sys2Proof.Machine.execAllOff s
  | .stepNext => Sys2Proof.Machine.execStepNext s
  | .noRow o u => Sys2Proof.Machine.execNoRow o u s
  | .tickA => Sys2Proof.Machine.execTickA s
  | .tickB => Sys2Proof.Machine.execTickB s
  | .resync => Sys2Proof.Machine.execResync s
  | .reset cfg => Sys2Proof.Machine.execReset cfg s
  | .resume cfg => Sys2Proof.Machine.execResume cfg s

end Sys2Proof.Machine
end

