-- ==== Sys2Proof/Machine/Fetch.lean ====
section
/-! DEFINITION. Which instruction runs next: a deferred tick first, else what the next waiting input stands for in
the decoder position the block is in (00_scope.md R3, section 4; 40_decoder_a.md R51; 41_decoder_b.md R64). -/

namespace Sys2Proof.Machine

/-- The context decoding takes from the state. -/
def State.ctx (s : State) : Ctx := { params := s.fixed.params, maxCamera := s.latched.maxCamera }

/-- The format the next received byte is read in: the decoder position register plays the program counter's part
(10_state.md R13, R15; 40_decoder_a.md R51; 41_decoder_b.md R64). -/
def State.position (s : State) : Format :=
  match s.fixed.variant with
  | .A =>
    match s.decA.aState with
    | .idle => .aFirst
    | .collect => .aDataCollect
    | .discard => .aDataDiscard
  | .B =>
    match s.decB.bIdx with
    | .i0 => .bPos0
    | .i1 => .bPos1
    | .i2 => .bPos2
    | .i3 => .bPos3
    | .i4 => .bPos4

/-- The `TickStep` of a variant (43_timer.md R91, R92). -/
def tickInstr : Variant → Instr
  | .A => .tickA
  | .B => .tickB

/-- What a step does: an instruction in the main context, with the timer event masked; an instruction in
another; an act of the surroundings that runs no instruction; or a stop. -/
inductive Fetched where
  | main (i : Instr) (s : State)
  | other (i : Instr) (s : State)
  | quiet (s : State)
  | stop (r : Refusal)
  deriving DecidableEq, Repr

/-- A received byte, read in the decoder position and run in the main context: a `ByteStep` (00_scope.md R3;
20_memory.md R31). The payload, B-U and ACTION rows run inside the ByteStep that completes a frame. Log 15. -/
def State.fetchByte (b : Byte) (fires : Bool) (s : State) : Fetched :=
  match decode s.ctx s.position [b] with
  | .ok (i, []) => .main i (s.enterMain fires)
  | _ => .stop .undecodable

/-- What an input stands for, the input already taken off the stimulus. Logs 13, 14, 24. -/
def State.take (x : Input) (s : State) : Fetched :=
  match x with
  | .rx b fires =>
    -- in Menu the byte goes to the Menu Controller (60_exceptions.md R110)
    if s.mode = .run then s.fetchByte b fires else .quiet s
  | .timerFires => .quiet s.timerFires
  | .receiveLoop fires =>
    -- where ResyncStep is not enabled the request waits (43_timer.md R96)
    if s.resyncEnabled then .main .resync (s.enterMain fires)
    else .quiet (if fires then s.timerFires else s)
  | .enterMenu => .quiet s.enterMenu
  | .menuSave r => if s.mode = .menu then .quiet { s with store := r } else .stop .outsideContract
  | .menuDrive c =>
    if s.mode = .menu ∧ s.fixed.variant = .B ∧ c.toNat ≤ 4 then
      .quiet { s with out := { s.out with muxSlot := c } }
    else .stop .outsideContract
  | .resume => .other (.resume s.store) s
  | .powerUp => .other (.reset s.store) s

/-- The next thing to do: a deferred firing runs its TickStep before anything else (60_exceptions.md R105); with
no input waiting the main context does nothing (20_memory.md R26). -/
def State.fetch (s : State) : Fetched :=
  if s.tickDue then .other (tickInstr s.fixed.variant) s
  else
    match s.stimulus with
    | [] => .quiet s
    | x :: rest => State.take x { s with stimulus := rest }

/-- The end of an instruction of the main context: the timer event is unmasked (20_memory.md R31). -/
def leaveMain : Result → Result
  | .next t => .next t.unmask
  | .fault f => .fault f
  | .refused r => .refused r

/-! ## A word of the opcode table as the next instruction. Log 16. -/

/-- Run in an instance of the variant, no tick pending, with `b` the next byte received. -/
def State.await (v : Variant) (b : Byte) (s : State) : State :=
  { s with fixed := { s.fixed with variant := v }, mode := .run, stimulus := .rx b false :: s.stimulus,
           timer := { s.timer with tickPending := false, timerMasked := false } }

/-- Variant A with the payload byte `b` of a frame of one payload byte next, its mask bit received before it. -/
def State.awaitPayload (kind : Kind) (b : Byte) (s : State) : State :=
  let mask : Byte := match kind with
    | .address => 0x00
    | .function => 0xFF
  let t := s.await .A b
  { t with decA := { t.decA with aState := .collect, aLen := 2, aIdx := 1, aBuf := t.decA.aBuf.write 0 mask } }

/-- Variant B with the last marker of the frame of `H` and `U` next. -/
def State.awaitMarker (h u : Byte) (s : State) : State :=
  { s.await .B 0xAD with decB := { bIdx := .i4, bH := h, bU := u } }

/-- The state whose next step runs the row of format `f` that the word `w` stands for. A row that runs inside a
ByteStep has that byte next: a payload the byte itself, a B-U byte and a whole frame the last marker (for a B-U byte
with the configured house), an ACTION the Function byte of its operation with its unit tracked. -/
def State.placeRow (f : Format) (w : Nat) (s : State) : State :=
  let b : Byte := BitVec.ofNat 8 w
  match f with
  | .aFirst => (s.await .A b).toBoundaryA
  | .bPos0 => (s.await .B b).setBIdx .i0
  | .bPos1 => (s.await .B b).setBIdx .i1
  | .bPos4 => (s.await .B b).setBIdx .i4
  | .aPayload => s.awaitPayload (maskKind (BitVec.ofNat 8 (w / 256)) 0) b
  | .bU => s.awaitMarker (joinNibbles (rawHouse s.fixed.params.houseTableB s.latched.houseCode) 0) b
  | .bFrame => s.awaitMarker (BitVec.ofNat 8 (w / 256 ^ 2)) (BitVec.ofNat 8 (w / 256))
  | .action =>
    { s.awaitPayload .function
        (joinNibbles (rawHouse s.fixed.params.houseTableA s.latched.houseCode)
          (s.fixed.params.funcCode (opFunction (opOfBit (b.getLsbD 4))))) with
      tracking := { lastHouse := some s.latched.houseCode, lastUnit := some (unitOfField (loNibble b)) } }
  | .event =>
    { s with fixed := { s.fixed with variant := .A }, mode := .run,
             timer := { s.timer with tickPending := true, timerMasked := false } }
  -- a bare word is never read in these positions (`tableFormat`)
  | .aDataCollect | .aDataDiscard | .bPos2 | .bPos3 => s

/-- The state in which the next step runs the instruction a word of spec/opcode_table.json stands for; `s` where no
row has the word. -/
def State.placeWord (s : State) (nbits w : Nat) : State :=
  match decodeTableWord nbits w, tableFormat nbits w with
  | some _, some f => s.placeRow f w
  | _, _ => s

end Sys2Proof.Machine
end

