-- ==== Sys2Proof/Machine/Step.lean ====
section
/-! DEFINITION. One step of the block. -/

namespace Sys2Proof.Machine

/-- One step: what `State.fetch` answers is carried out (00_scope.md R3; 20_memory.md R30). -/
def step (s : State) : Host.Outcome State Fault Refusal :=
  match s.fetch with
  | .main i t => leaveMain (exec i t)
  | .other i t => exec i t
  | .quiet t => .next t
  | .stop r => .refused r

/-- The state whose next step runs the instruction of the word `w` of `nbits` bits. -/
def State.withFetchWord (s : State) (nbits w : Nat) : State := s.placeWord nbits w

end Sys2Proof.Machine
end

