-- ==== Sys2Proof/Safety.lean ====
section
/-! DEFINITION. What a good state is (10_state.md R20), which inputs the surroundings may give, what is observed
(00_scope.md R4), and runs. -/

namespace Sys2Proof.Machine

/-- The invariants about the camera, the scan and the latched configuration: the ranges of R6, I1, I6 and I7 of
10_state.md R20. -/
abbrev State.CameraInv (s : State) : Prop :=
  2 ≤ s.latched.maxCamera.toNat ∧ s.latched.maxCamera.toNat ≤ 4 ∧
  s.camera.currentCamera.toNat ≤ s.latched.maxCamera.toNat ∧
  (s.camera.scanActive = true →
    s.camera.scanCycleCounter.toNat < s.fixed.params.scanTicks s.latched.scanPeriodMultiplier) ∧
  s.camera.inactivityCounter.toNat ≤ s.fixed.params.inactivityThreshold

/-- The invariants about the decoder of variant A: I4 of 10_state.md R20, the range of `a_discard_rem` (R13), and
the form of the frame buffer. -/
abbrev State.DecoderInv (s : State) : Prop :=
  (s.decA.aState = .collect →
    1 ≤ s.decA.aLen.toNat ∧ s.decA.aLen.toNat ≤ 9 ∧ s.decA.aIdx.toNat < s.decA.aLen.toNat) ∧
  (s.decA.aState = .discard →
    1 ≤ s.decA.aDiscardRem.toNat ∧ s.decA.aDiscardRem.toNat ≤ s.fixed.params.recoveryWindow) ∧
  s.decA.aBuf.wf ∧ s.decA.aBuf.inBuffer

/-- The invariants about the timer: I8 and I9 of 10_state.md R20, and R17's bits between steps: the event is not
masked, and in Menu no firing is pending (60_exceptions.md R110). -/
abbrev State.TimerInv (s : State) : Prop :=
  s.timer.resyncCounter.toNat < s.fixed.params.resyncThreshold ∧
  s.timer.prescaleCounter.toNat ≤ 4 ∧
  s.timer.timerMasked = false ∧
  (s.mode = .menu → s.timer.tickPending = false)

/-- The tracking registers hold both or neither, and the house is the configured one (42_interpreter.md R74). -/
abbrev State.TrackingInv (s : State) : Prop :=
  (s.tracking.lastHouse = none ∧ s.tracking.lastUnit = none) ∨
  (s.tracking.lastHouse = some s.latched.houseCode ∧
    ∃ u : UnitNo, s.tracking.lastUnit = some u ∧ 1 ≤ u.toNat ∧ u.toNat ≤ 16)

/-- I3 of 10_state.md R20: the Output Driver holds the camera selected, in Run. -/
abbrev State.OutputInv (s : State) : Prop := s.mode = .run → s.out.muxSlot = s.camera.currentCamera

/-- What holds between steps (10_state.md R20), with legal parameters. I2 is about steps, and I5 holds by the
type of `b_idx`. -/
def State.Inv (s : State) : Prop :=
  s.fixed.params.Legal ∧ s.CameraInv ∧ s.DecoderInv ∧ s.TimerInv ∧ s.TrackingInv ∧ s.OutputInv

/-- The inputs the surroundings may give in a state (60_exceptions.md section 4, R111, R115): the Menu Controller
acts only in Menu and its Output Driver calls and Resume only in variant B; a record the block loads is legal. -/
def State.MayReceive (s : State) : Input → Prop
  | .rx _ _ => True
  | .timerFires => True
  | .receiveLoop _ => True
  | .enterMenu => True
  | .menuSave _ => s.mode = .menu
  | .menuDrive c => s.mode = .menu ∧ s.fixed.variant = .B ∧ c.toNat ≤ 4
  | .resume => s.mode = .menu ∧ s.fixed.variant = .B ∧ s.store.Legal
  | .powerUp => s.store.Legal

/-- What the block does to the outside (00_scope.md R4): the three traces, and in variant A `want_resync`. -/
def State.observed (s : State) : List Byte × List Slot × List Report × Option Bool :=
  (s.out.txTrace, s.out.odTrace, s.out.reportTrace,
    match s.fixed.variant with
    | .A => some s.timer.wantResync
    | .B => none)

/-- The pattern on the selection lines: `MUX_LINES(mux_slot)` (10_state.md R19). -/
def State.selectionLines (s : State) : List Bool := Config.muxLines s.out.muxSlot

/-- The control line, in the variant that has it: `CTRL_LINE(mux_slot)` (60_exceptions.md R114). -/
def State.controlLine (s : State) : Option Bool := Config.ctrlLine s.fixed.variant s.out.muxSlot

/-- What the scan or idle part of a slow tick leaves, from `s` to `t`: the scan count goes on below the threshold,
the camera advances at it; the inactivity count goes on up to its threshold, the idle policy is applied above it
(43_timer.md R91, R93, R94; 42_interpreter.md R86). Everything else of the camera and the outputs is as before. -/
def ScanOrIdleEffect (s t : State) : Prop :=
  (s.camera.scanActive = true →
    (s.camera.scanCycleCounter + 1).toNat < s.fixed.params.scanTicks s.latched.scanPeriodMultiplier →
    t.camera = { s.camera with scanCycleCounter := s.camera.scanCycleCounter + 1 } ∧ t.out = s.out) ∧
  (s.camera.scanActive = true →
    s.fixed.params.scanTicks s.latched.scanPeriodMultiplier ≤ (s.camera.scanCycleCounter + 1).toNat →
    ∃ c : Slot, c.toNat = (if s.latched.maxCamera.toNat ≤ s.camera.currentCamera.toNat then 1
        else s.camera.currentCamera.toNat + 1) ∧
      t.camera = { s.camera with currentCamera := c, scanCycleCounter := 0 } ∧
      t.out = { s.out with muxSlot := c, odTrace := s.out.odTrace ++ [c] }) ∧
  (s.camera.scanActive = false →
    (s.camera.inactivityCounter + 1).toNat ≤ s.fixed.params.inactivityThreshold →
    t.camera = { s.camera with inactivityCounter := s.camera.inactivityCounter + 1 } ∧ t.out = s.out) ∧
  (s.camera.scanActive = false →
    s.fixed.params.inactivityThreshold < (s.camera.inactivityCounter + 1).toNat →
    (s.latched.idleMode = .scan →
      t.camera = { s.camera with scanActive := true, scanCycleCounter := 0, inactivityCounter := 0 } ∧
      t.out = s.out) ∧
    (s.latched.idleMode = .priorityCamera →
      t.camera = { s.camera with currentCamera := 1, inactivityCounter := 0 } ∧
      t.out = if s.camera.currentCamera = 1 then s.out
        else { s.out with muxSlot := 1, odTrace := s.out.odTrace ++ [1] }) ∧
    (s.latched.idleMode = .none →
      t.camera = { s.camera with inactivityCounter := 0 } ∧ t.out = s.out))

/-- Instructions carried out one after the other, up to the first that stops. -/
def execAll : List Instr → State → Result
  | [], s => .next s
  | i :: is, s =>
    match exec i s with
    | .next t => execAll is t
    | .fault f => .fault f
    | .refused r => .refused r

/-- `t` is reached from `s` by steps that answer a next state. -/
inductive Reaches : State → State → Prop where
  | refl (s : State) : Reaches s s
  | step (s t u : State) : Reaches s t → step t = .next u → Reaches s u

end Sys2Proof.Machine
end

