-- ==== Sys2Proof/Certificates/Slice0/Obligations.lean ====
section
/-! DEFINITION. The statements for the provers, each from the rules of spec/ its docstring names. "Log n" is
notes/assumptions/n.md; "D n" is a decision of 92_eei_decisions.md, which the rule cites. -/

open Sys2Proof Sys2Proof.Machine

/-! ## Encoding -/

/-- Decoding the bytes of a well-formed instruction gives it back, with every operand (30_encoding.md R35 to R45,
R50), for every legal set of tables. -/
def Obligations.DecodeOfEncodeIsTheInstruction : Prop :=
  ∀ (c : Ctx) (i : Instr) (rest : List Byte), c.params.TablesLegal → i.WellFormed c → i.format ≠ .event →
    decode c i.format (encode c i ++ rest) = .ok (i, rest)

/-- What decoding answers is a well-formed row of the format, and its bytes are the ones read (30_encoding.md R50:
one row of a format for each word). -/
def Obligations.EncodeOfDecodeIsTheBytes : Prop :=
  ∀ (c : Ctx) (f : Format) (bytes rest : List Byte) (i : Instr), c.params.TablesLegal →
    decode c f bytes = .ok (i, rest) →
    i.format = f ∧ i.WellFormed c ∧ encode c i ++ rest = bytes

/-- Words of the opcode table, each read in its format (30_encoding.md R35, R42, R43, R45, R49, R50). The rows of the
two Function bytes, 62 and 64, rest on the default function table, which the spec takes from general knowledge, and
the ACTION word on the model's `max_camera` of 4 (log 2, log 16). -/
def Obligations.OpcodeTableWordsDecode : Prop :=
  decode tableCtx .aFirst [0x5A] = .ok (.aPoll, []) ∧
  decode tableCtx .aFirst [0x09] = .ok (.aLen9, []) ∧
  decode tableCtx .aFirst [0x0A] = .ok (.aDesync 0x0A, []) ∧
  decode tableCtx .aDataCollect [0x5A] = .ok (.aCollect 0x5A, []) ∧
  decode tableCtx .aPayload [0x66, 0] = .ok (.aAddress 6 6, []) ∧
  decode tableCtx .aPayload [0x62, 1] = .ok (.aFuncOn 6, []) ∧
  decode tableCtx .aPayload [0x64, 1] = .ok (.aFuncDim 6, []) ∧
  decode tableCtx .bPos0 [0xD5] = .ok (.bP1, []) ∧
  decode tableCtx .bPos2 [0x60] = .ok (.bH 6 0, []) ∧
  decode tableCtx .bFrame [0xD5, 0xAA, 0x60, 0x00, 0xAD] = .ok (.bFrame 6 0 0, []) ∧
  decode tableCtx .bU [0x00] = .ok (.bU1On, []) ∧
  decode tableCtx .action [0x15] = .ok (.stepPrev, [])

/-- No encoding traps: whatever the decoder position, every byte has a row, and it is well formed
(30_encoding.md R47; the tables of 40_decoder_a.md R51 and 41_decoder_b.md R64 are total). -/
def Obligations.EveryReceivedByteHasARow : Prop :=
  ∀ (s : State) (b : Byte), ∃ i : Instr,
    decode s.ctx s.position [b] = .ok (i, []) ∧ i.format = s.position ∧ i.WellFormed s.ctx

/-! ## One step -/

/-- A step runs the decoded instruction: a received byte in the decoder position, in the main context, with the
timer event masked on entry and unmasked on exit (00_scope.md R3; 20_memory.md R31). A timer firing flagged with the
byte arrives while the event is masked. The order of inputs is the model's choice (log 7, log 8). -/
def Obligations.StepRunsTheDecodedInstruction : Prop :=
  ∀ (s : State) (i : Instr) (b : Byte) (fires : Bool) (rest : List Input), s.mode = .run → s.tickDue = false →
    s.stimulus = .rx b fires :: rest → decode s.ctx s.position [b] = .ok (i, []) →
    step s = leaveMain (exec i (State.enterMain fires { s with stimulus := rest }))

/-- The events that carry no byte: a deferred tick runs before any input, the receive loop runs ResyncStep where
it is enabled, the hand-back runs Resume and a power cycle Reset with the record as it then stands (43_timer.md
R91, R92, R96; 60_exceptions.md R105, R111; 70_reset_and_hazards.md R117; log 8). -/
def Obligations.StepRunsTheEventsWithoutABit : Prop :=
  ∀ (s : State) (rest : List Input),
    (s.tickDue = true → s.fixed.variant = .A → step s = exec .tickA s) ∧
    (s.tickDue = true → s.fixed.variant = .B → step s = exec .tickB s) ∧
    (s.tickDue = false →
      (∀ fires : Bool, s.stimulus = .receiveLoop fires :: rest → s.fixed.variant = .A → s.mode = .run →
        s.timer.wantResync = true → s.decA.aState = .idle →
        step s = leaveMain (exec .resync (State.enterMain fires { s with stimulus := rest }))) ∧
      (s.stimulus = .resume :: rest → step s = exec (.resume s.store) { s with stimulus := rest }) ∧
      (s.stimulus = .powerUp :: rest → step s = exec (.reset s.store) { s with stimulus := rest }))

/-- The steps that run no instruction: no input waits (20_memory.md R26); the timer fires in Run; the receive loop
finds nothing it may consume (43_timer.md R96), and a firing meanwhile is remembered (the model's reading, log 24);
entering Menu drops a pending firing (60_exceptions.md R110, D30); in Menu the record is saved, or the menu of
variant B drives the Output Driver (60_exceptions.md R110). The last three are the model's reading (log 13). -/
def Obligations.StepsWithoutAnInstruction : Prop :=
  ∀ (s : State) (rest : List Input), s.tickDue = false →
    (s.stimulus = [] → step s = .next s) ∧
    (s.stimulus = .timerFires :: rest → s.mode = .run →
      step s = .next { s with stimulus := rest, timer := { s.timer with tickPending := true } }) ∧
    (s.stimulus = .receiveLoop false :: rest →
      (s.fixed.variant = .B ∨ s.mode = .menu ∨ s.timer.wantResync = false ∨ s.decA.aState ≠ .idle) →
      step s = .next { s with stimulus := rest }) ∧
    (s.stimulus = .receiveLoop true :: rest → s.mode = .run →
      (s.fixed.variant = .B ∨ s.timer.wantResync = false ∨ s.decA.aState ≠ .idle) →
      step s = .next { s with stimulus := rest, timer := { s.timer with tickPending := true } }) ∧
    (s.stimulus = .enterMenu :: rest →
      step s = .next { s with stimulus := rest, mode := .menu,
                              timer := { s.timer with tickPending := false } }) ∧
    (∀ r : Record, s.stimulus = .menuSave r :: rest → s.mode = .menu →
      step s = .next { s with stimulus := rest, store := r }) ∧
    (∀ c : Slot, s.stimulus = .menuDrive c :: rest → s.mode = .menu → s.fixed.variant = .B → c.toNat ≤ 4 →
      step s = .next { s with stimulus := rest, out := { s.out with muxSlot := c } })

/-- In Menu no ByteStep, TickStep or ResyncStep occurs (60_exceptions.md R110): a byte, a firing and the receive loop
leave everything but the list of inputs as it was. That a byte is taken off that list, for the Menu Controller, and
that a firing is not remembered, is the model's reading of R110 (log 13). -/
def Obligations.MenuSuspendsTheBlock : Prop :=
  ∀ (s : State) (x : Input) (rest : List Input), s.mode = .menu → s.stimulus = x :: rest →
    ((∃ b fires, x = .rx b fires) ∨ x = .timerFires ∨ (∃ fires, x = .receiveLoop fires)) →
    step s = .next { s with stimulus := rest }

/-- A firing that arrives while a ByteStep or an enabled ResyncStep is in progress is not lost: it is pending after
the step, the event is unmasked, and the next step is the TickStep (20_memory.md R31, R32; 60_exceptions.md R105). -/
def Obligations.FiringDuringAStepIsDeferred : Prop :=
  ∀ (s t : State) (rest : List Input), s.mode = .run → s.tickDue = false → step s = .next t →
    ((∃ b, s.stimulus = .rx b true :: rest) ∨
      (s.stimulus = .receiveLoop true :: rest ∧ s.fixed.variant = .A ∧ s.timer.wantResync = true ∧
        s.decA.aState = .idle)) →
    t.timer.tickPending = true ∧ t.timer.timerMasked = false ∧ t.mode = .run ∧
      step t = exec (tickInstr t.fixed.variant) t

/-! ## The Frame Decoder, variant A -/

/-- The four handshake codes, each a first byte, and their replies; nothing else is written (40_decoder_a.md R52 to
R55). -/
def Obligations.HandshakesReply : Prop :=
  ∀ s : State, s.fixed.variant = .A →
    decode s.ctx .aFirst [0x5A] = .ok (.aPoll, []) ∧ decode s.ctx .aFirst [0x00] = .ok (.aNull, []) ∧
    decode s.ctx .aFirst [0xA5] = .ok (.aTimereq, []) ∧ decode s.ctx .aFirst [0x55] = .ok (.aReady, []) ∧
    exec .aPoll s = .next { s with out := { s.out with txTrace := s.out.txTrace ++ [0xC3] } } ∧
    exec .aNull s = .next { s with out := { s.out with txTrace := s.out.txTrace ++ [0x00] } } ∧
    exec .aTimereq s = .next { s with out := { s.out with
      txTrace := s.out.txTrace ++ [0x9B, 0x00, 0x00, 0x00, 0x00, 0x00, 0x00] } } ∧
    exec .aReady s = .next s

/-- A first byte 1..9 is a length prefix: it starts a frame and writes nothing else (40_decoder_a.md R56). -/
def Obligations.LengthPrefixStartsAFrame : Prop :=
  ∀ (s : State) (i : Instr) (n : BitVec 4),
    (i, n) ∈ [(Instr.aLen1, (1 : BitVec 4)), (.aLen2, 2), (.aLen3, 3), (.aLen4, 4), (.aLen5, 5), (.aLen6, 6),
      (.aLen7, 7), (.aLen8, 8), (.aLen9, 9)] →
    s.fixed.variant = .A →
    decode s.ctx .aFirst [n.setWidth 8] = .ok (i, []) ∧
    exec i s = .next { s with decA := { s.decA with aState := .collect, aLen := n, aIdx := 0 } }

/-- A desynchronization is reported with its byte and opens a window of at most `RECOVERY_WINDOW` bytes; how many
is a draw (40_decoder_a.md R57, D6; log 10). Nothing else of the block is written. -/
def Obligations.DesyncReportsAndOpensTheWindow : Prop :=
  ∀ (s : State) (b : Byte), s.fixed.variant = .A →
    ∃ d : Nat, d ≤ s.fixed.params.recoveryWindow ∧
      exec (.aDesync b) s = .next { s with
        drawCount := s.drawCount + 1
        decA := { s.decA with aDiscardRem := BitVec.ofNat 8 d,
                              aState := if d = 0 then .idle else .discard }
        out := { s.out with reportTrace := s.out.reportTrace ++ [{ condition := .desync, info := b }] } }

/-- A byte inside the window only counts it down, and the last one ends it (40_decoder_a.md R60, D6). -/
def Obligations.DiscardCountsTheWindowDown : Prop :=
  ∀ (s : State) (b : Byte), s.fixed.variant = .A → s.decA.aState = .discard → 1 ≤ s.decA.aDiscardRem.toNat →
    ∃ r : Counter, r.toNat = s.decA.aDiscardRem.toNat - 1 ∧
      exec (.aDiscard b) s = .next { s with
        decA := { s.decA with aDiscardRem := r, aState := if r.toNat = 0 then .idle else .discard } }

/-- As many bytes as the window holds, whatever they are, bring the decoder back to a frame boundary and do
nothing else (40_decoder_a.md R57, R60; 95_test_vectors.md Q2). -/
def Obligations.RecoveryWindowEndsAtABoundary : Prop :=
  ∀ (s : State) (bs : List Byte), s.fixed.variant = .A → s.decA.aState = .discard → bs ≠ [] →
    bs.length = s.decA.aDiscardRem.toNat →
    execAll (bs.map Instr.aDiscard) s =
      .next { s with decA := { s.decA with aDiscardRem := 0, aState := .idle } }

/-- A byte inside a frame, not its last, is stored at `a_idx`, and every other byte of the buffer reads as before
(40_decoder_a.md R58; 10_state.md R14). -/
def Obligations.CollectStoresOneByte : Prop :=
  ∀ (s : State) (b : Byte), s.fixed.variant = .A → s.decA.aIdx.toNat < 9 → s.decA.aIdx + 1 ≠ s.decA.aLen →
    ∃ m : Memory,
      exec (.aCollect b) s = .next { s with decA := { s.decA with aIdx := s.decA.aIdx + 1, aBuf := m } } ∧
      (s.decA.aBuf.wf → m.read s.decA.aIdx.toNat = b) ∧
      ∀ a : Nat, a ≠ s.decA.aIdx.toNat → m.read a = s.decA.aBuf.read a

/-- The last byte of a frame is stored like any other, and then every payload byte is interpreted, in order, as the
row that its mask bit and its value select; the decoder is at a frame boundary again, and the buffer keeps its bytes
(40_decoder_a.md R58, R59; 30_encoding.md R37, R50; 20_memory.md R27). -/
def Obligations.LastByteInterpretsTheFrame : Prop :=
  ∀ (s : State) (b : Byte), s.fixed.variant = .A → s.decA.aIdx.toNat < 9 → s.decA.aIdx + 1 = s.decA.aLen →
    ∃ (m : Memory) (t : State),
      (s.decA.aBuf.wf → m.read s.decA.aIdx.toNat = b) ∧
      (∀ a : Nat, a ≠ s.decA.aIdx.toNat → m.read a = s.decA.aBuf.read a) ∧
      execAll ((List.range (s.decA.aLen.toNat - 1)).map fun j =>
          decodePayload s.fixed.params (maskKind (m.read 0) (j + s.fixed.params.maskBitOffset)) (m.read (j + 1)))
        { s with decA := { s.decA with aIdx := s.decA.aIdx + 1, aBuf := m } } = .next t ∧
      t.decA = { s.decA with aIdx := s.decA.aIdx + 1, aBuf := m } ∧
      exec (.aCollect b) s = .next { t with decA := { t.decA with aState := .idle } }

/-- Above index 8 the buffer has no byte: the model stops, in states the block does not reach (20_memory.md R28;
the model's choice, log 19). -/
def Obligations.CollectOutsideTheBufferFaults : Prop :=
  ∀ (s : State) (b : Byte), s.fixed.variant = .A → 9 ≤ s.decA.aIdx.toNat →
    exec (.aCollect b) s = .fault .frameIndexOutOfRange

/-- Inside a frame every byte is data, and inside the window every byte is dropped: no handshake code is answered
there (40_decoder_a.md R61). -/
def Obligations.HandshakeCodesAreFirstBytesOnly : Prop :=
  ∀ (s : State) (b : Byte) (fires : Bool) (rest : List Input), s.fixed.variant = .A → s.mode = .run →
    s.tickDue = false → s.stimulus = .rx b fires :: rest →
    (s.decA.aState = .collect →
      step s = leaveMain (exec (.aCollect b) (State.enterMain fires { s with stimulus := rest }))) ∧
    (s.decA.aState = .discard →
      step s = leaveMain (exec (.aDiscard b) (State.enterMain fires { s with stimulus := rest }))) ∧
    (s.decA.aState ≠ .idle → ∀ t : State, step s = .next t → t.out.txTrace = s.out.txTrace)

/-! ## The interpreter -/

/-- An event of another house writes no register and calls nothing: the condition in the model's own record is all
that is added (42_interpreter.md R72, D10; log 11). Variant A, a payload byte of either kind; for variant B see
`LastMarkerInterpretsTheFrame`. -/
def Obligations.ForeignHouseIsIgnored : Prop :=
  ∀ (s : State) (kind : Kind) (p : Byte), s.fixed.variant = .A →
    s.fixed.params.letterA (hiNibble p) ≠ s.latched.houseCode →
    exec (decodePayload s.fixed.params kind p) s =
      .next { s with out := { s.out with silentTrace := s.out.silentTrace ++ [.foreign] } }

/-- An Address of the configured house writes the two tracking registers and nothing else (42_interpreter.md R73). -/
def Obligations.AddressSetsTheTracking : Prop :=
  ∀ (s : State) (h d : Nibble), s.fixed.variant = .A → s.fixed.params.letterA h = s.latched.houseCode →
    exec (.aAddress h d) s = .next { s with
      tracking := { lastHouse := some s.latched.houseCode, lastUnit := some (s.fixed.params.unitA d) } }

/-- On and Off of the configured house carry out the command of the tracked unit, and nothing but the condition is
added where no unit is tracked; the tracking registers keep their values (42_interpreter.md R74, D11, D12). -/
def Obligations.FunctionActsOnTheTrackedUnit : Prop :=
  ∀ (s : State) (h : Nibble) (i : Instr) (op : Op),
    (i, op) ∈ [(Instr.aFuncOn h, Op.on), (.aFuncOff h, .off)] →
    s.fixed.variant = .A → s.fixed.params.letterA h = s.latched.houseCode →
    (s.tracking.lastUnit = none →
      exec i s = .next { s with out := { s.out with silentTrace := s.out.silentTrace ++ [.noRow] } }) ∧
    (∀ u : Nibble, s.tracking.lastUnit = some (unitOfField u) →
      ∃ t : State, exec i s = .next t ∧ exec (decodeAction s.latched.maxCamera op u) s = .next t ∧
        t.tracking = s.tracking)

/-- The fourteen other function codes of the configured house write nothing (42_interpreter.md R75); the condition is
noted in the model's own record (log 11). -/
def Obligations.OtherFunctionsAreIgnored : Prop :=
  ∀ (s : State) (h : Nibble) (i : Instr),
    i ∈ [Instr.aFuncAllUnitsOff h, .aFuncAllLightsOn h, .aFuncDim h, .aFuncBright h, .aFuncAllLightsOff h,
      .aFuncExtCode h, .aFuncHailReq h, .aFuncHailAck h, .aFuncPresetDim1 h, .aFuncPresetDim2 h, .aFuncExtData h,
      .aFuncStatusOn h, .aFuncStatusOff h, .aFuncStatusReq h] →
    s.fixed.variant = .A → s.fixed.params.letterA h = s.latched.houseCode →
    exec i s = .next { s with out := { s.out with silentTrace := s.out.silentTrace ++ [.noRow] } }

/-! ## The Frame Decoder, variant B -/

/-- Positions 0 to 3 of the template: a marker moves on, any other byte there empties the accumulation, `H` and `U`
are held whatever they are; nothing else of the block is written (41_decoder_b.md R65 to R68). The mismatch is noted
in the model's own record (log 11). -/
def Obligations.TemplatePositionsMoveTheDecoder : Prop :=
  ∀ s : State, s.fixed.variant = .B →
    (decode s.ctx .bPos0 [0xD5] = .ok (.bP1, []) ∧
      exec .bP1 s = .next { s with decB := { s.decB with bIdx := .i1 } }) ∧
    (∀ b : Byte, b ≠ 0xD5 → decode s.ctx .bPos0 [b] = .ok (.bP1Miss b, []) ∧
      exec (.bP1Miss b) s = .next { s with
        decB := { s.decB with bIdx := .i0 },
        out := { s.out with silentTrace := s.out.silentTrace ++ [.malformed] } }) ∧
    (decode s.ctx .bPos1 [0xAA] = .ok (.bP2, []) ∧
      exec .bP2 s = .next { s with decB := { s.decB with bIdx := .i2 } }) ∧
    (∀ b : Byte, b ≠ 0xAA → decode s.ctx .bPos1 [b] = .ok (.bP2Miss b, []) ∧
      exec (.bP2Miss b) s = .next { s with
        decB := { s.decB with bIdx := .i0 },
        out := { s.out with silentTrace := s.out.silentTrace ++ [.malformed] } }) ∧
    (∀ h x : Nibble, decode s.ctx .bPos2 [joinNibbles h x] = .ok (.bH h x, []) ∧
      exec (.bH h x) s = .next { s with decB := { s.decB with bIdx := .i3, bH := joinNibbles h x } }) ∧
    (∀ u : Byte, decode s.ctx .bPos3 [u] = .ok (.bU u, []) ∧
      exec (.bU u) s = .next { s with decB := { s.decB with bIdx := .i4, bU := u } })

/-- Position 4: the marker makes the event of `H` and `U` act as the row of its `U` byte when the house of `H`'s high
nibble is the configured one, and do nothing when it is another; any other byte forgets the frame; the decoder is at
position 0 in every case (41_decoder_b.md R69, R71). The silent conditions go to the model's own record (log 11). -/
def Obligations.LastMarkerInterpretsTheFrame : Prop :=
  ∀ s : State, s.fixed.variant = .B →
    decode s.ctx .bPos4 [0xAD] = .ok (.bP3, []) ∧
    (s.fixed.params.letterB (hiNibble s.decB.bH) = s.latched.houseCode →
      ∃ t : State, exec (decodeUnit s.fixed.params s.decB.bU) s = .next t ∧ t.decB = s.decB ∧
        exec .bP3 s = .next { t with decB := { t.decB with bIdx := .i0 } }) ∧
    (s.fixed.params.letterB (hiNibble s.decB.bH) ≠ s.latched.houseCode →
      exec .bP3 s = .next { s with
        decB := { s.decB with bIdx := .i0 },
        out := { s.out with silentTrace := s.out.silentTrace ++ [.foreign] } }) ∧
    (∀ b : Byte, b ≠ 0xAD → decode s.ctx .bPos4 [b] = .ok (.bP3Miss b, []) ∧
      exec (.bP3Miss b) s = .next { s with
        decB := { s.decB with bIdx := .i0 },
        out := { s.out with silentTrace := s.out.silentTrace ++ [.malformed] } })

/-- At position 0 the whole frame is its five rows in sequence (30_encoding.md R43, R50; log 17). -/
def Obligations.FrameRowIsItsFiveRows : Prop :=
  ∀ (s : State) (h x : Nibble) (u : Byte), s.fixed.variant = .B → s.decB.bIdx = .i0 →
    ∃ t : State, exec (.bFrame h x u) s = .next t ∧
      execAll [.bP1, .bP2, .bH h x, .bU u, .bP3] s = .next t ∧
      t.decB = { bIdx := .i0, bH := joinNibbles h x, bU := u }

/-- The `U` byte of a unit and an operation: a repeat of the byte the token holds only notes the condition, any
other holds it and carries out the command of that unit (42_interpreter.md R76, D20). -/
def Obligations.UnitBytesActBehindTheToken : Prop :=
  ∀ (s : State) (i : Instr) (k : Fin 6) (op : Op),
    (i, k, op) ∈ [(Instr.bU1On, (0 : Fin 6), Op.on), (.bU1Off, 0, .off), (.bU2On, 1, .on), (.bU2Off, 1, .off),
      (.bU3On, 2, .on), (.bU3Off, 2, .off), (.bU4On, 3, .on), (.bU4Off, 3, .off), (.bU5On, 4, .on),
      (.bU5Off, 4, .off), (.bU6On, 5, .on), (.bU6Off, 5, .off)] →
    s.fixed.variant = .B →
    (s.token.dupValid = true ∧ s.token.dupValue = s.fixed.params.unitCode k op →
      exec i s = .next { s with out := { s.out with silentTrace := s.out.silentTrace ++ [.duplicate] } }) ∧
    (¬ (s.token.dupValid = true ∧ s.token.dupValue = s.fixed.params.unitCode k op) →
      ∃ t : State, exec i s = .next t ∧
        exec (decodeAction s.latched.maxCamera op (BitVec.ofNat 4 k.val))
          { s with token := { dupValid := true, dupValue := s.fixed.params.unitCode k op } } = .next t)

/-- A `U` byte without an entry holds the token and does nothing else; a repeat only notes the condition
(42_interpreter.md R76, D20). -/
def Obligations.UnitByteWithoutEntryHoldsTheToken : Prop :=
  ∀ (s : State) (u : Byte), s.fixed.variant = .B →
    (s.token.dupValid = true ∧ s.token.dupValue = u →
      exec (.bUOther u) s =
        .next { s with out := { s.out with silentTrace := s.out.silentTrace ++ [.duplicate] } }) ∧
    (¬ (s.token.dupValid = true ∧ s.token.dupValue = u) →
      exec (.bUOther u) s = .next { s with
        token := { dupValid := true, dupValue := u },
        out := { s.out with silentTrace := s.out.silentTrace ++ [.noRow] } })

/-- The same `U` byte again, with no tick between, changes nothing: the Output Driver is not called, whichever of
the six units it is for (42_interpreter.md R76, R90 law 2; 95_test_vectors.md Q5). -/
def Obligations.RepeatedUnitByteIsSuppressed : Prop :=
  ∀ (s t : State) (i : Instr), s.fixed.variant = .B → ((∃ k op, i = unitInstr k op) ∨ ∃ u, i = .bUOther u) →
    exec i s = .next t →
    exec i t = .next { t with out := { t.out with silentTrace := t.out.silentTrace ++ [.duplicate] } }

/-! ## Commands -/

/-- CAM.ON n up to `max_camera` selects camera n, ends a scan and restarts the inactivity count; the Output Driver is
called exactly when the camera changes (42_interpreter.md R78). -/
def Obligations.CameraOnSelectsTheCamera : Prop :=
  ∀ (s : State) (i : Instr) (n : Slot),
    (i, n) ∈ [(Instr.camOn1, (1 : Slot)), (.camOn2, 2), (.camOn3, 3), (.camOn4, 4)] →
    n.toNat ≤ s.latched.maxCamera.toNat →
    exec i s = .next { s with
      camera := { s.camera with currentCamera := n, scanActive := false, inactivityCounter := 0 }
      out := if s.camera.currentCamera = n then s.out
        else { s.out with muxSlot := n, odTrace := s.out.odTrace ++ [n] } }

/-- SCAN.ON starts a scan with its count at 0, leaves a running one as it is, and restarts the inactivity count
(42_interpreter.md R79, R85, D16). -/
def Obligations.ScanOnEnablesScanning : Prop :=
  ∀ s : State, exec .scanOn s = .next { s with
    camera := { s.camera with
      scanActive := true
      scanCycleCounter := if s.camera.scanActive then s.camera.scanCycleCounter else 0
      inactivityCounter := 0 } }

/-- STEP.PREV and STEP.NEXT select the neighbour of the current camera, wrapping between 1 and `max_camera`, end a
scan, and always call the Output Driver (42_interpreter.md R80, R83, R87, D14, D15). -/
def Obligations.StepsSelectTheNeighbour : Prop :=
  ∀ (s : State) (i : Instr) (n : Nat), 2 ≤ s.latched.maxCamera.toNat →
    s.camera.currentCamera.toNat ≤ s.latched.maxCamera.toNat →
    (i, n) ∈ [(Instr.stepPrev, if s.camera.currentCamera.toNat ≤ 1 then s.latched.maxCamera.toNat
        else s.camera.currentCamera.toNat - 1),
      (.stepNext, if s.latched.maxCamera.toNat ≤ s.camera.currentCamera.toNat then 1
        else s.camera.currentCamera.toNat + 1)] →
    ∃ c : Slot, c.toNat = n ∧ exec i s = .next { s with
      camera := { s.camera with currentCamera := c, scanActive := false, inactivityCounter := 0 }
      out := { s.out with muxSlot := c, odTrace := s.out.odTrace ++ [c] } }

/-- CAM.OFF n up to `max_camera`: while camera n is the current one the idle policy is applied, else only the
inactivity count restarts (42_interpreter.md R81, R86, D16, D17). -/
def Obligations.CameraOffAppliesTheIdlePolicy : Prop :=
  ∀ (s : State) (i : Instr) (n : Slot),
    (i, n) ∈ [(Instr.camOff1, (1 : Slot)), (.camOff2, 2), (.camOff3, 3), (.camOff4, 4)] →
    n.toNat ≤ s.latched.maxCamera.toNat →
    (s.camera.currentCamera ≠ n →
      exec i s = .next { s with camera := { s.camera with inactivityCounter := 0 } }) ∧
    (s.camera.currentCamera = n → s.latched.idleMode = .scan →
      exec i s = .next { s with camera := { s.camera with
        scanActive := true
        scanCycleCounter := if s.camera.scanActive then s.camera.scanCycleCounter else 0
        inactivityCounter := 0 } }) ∧
    (s.camera.currentCamera = n → s.latched.idleMode = .priorityCamera →
      exec i s = .next { s with
        camera := { s.camera with currentCamera := 1, scanActive := false, inactivityCounter := 0 }
        out := if n = 1 then s.out else { s.out with muxSlot := 1, odTrace := s.out.odTrace ++ [1] } }) ∧
    (s.camera.currentCamera = n → s.latched.idleMode = .none →
      exec i s = .next { s with camera := { s.camera with inactivityCounter := 0 } })

/-- ALL.OFF selects slot 0, ends a scan and restarts the inactivity count (42_interpreter.md R82, D18). -/
def Obligations.AllOffSelectsSlotZero : Prop :=
  ∀ s : State, exec .allOff s = .next { s with
    camera := { s.camera with currentCamera := 0, scanActive := false, inactivityCounter := 0 }
    out := if s.camera.currentCamera = 0 then s.out
      else { s.out with muxSlot := 0, odTrace := s.out.odTrace ++ [0] } }

/-- A command without a row writes no register, the inactivity count included: a unit 1..4 above `max_camera`, and
NOROW (42_interpreter.md R89, D13; log 11). -/
def Obligations.CommandsWithoutARowDoNothing : Prop :=
  (∀ (s : State) (i : Instr) (n : Nat),
    (i, n) ∈ [(Instr.camOn1, 1), (.camOn2, 2), (.camOn3, 3), (.camOn4, 4), (.camOff1, 1), (.camOff2, 2),
      (.camOff3, 3), (.camOff4, 4)] →
    s.latched.maxCamera.toNat < n →
    exec i s = .next { s with out := { s.out with silentTrace := s.out.silentTrace ++ [.noRow] } }) ∧
  (∀ (s : State) (o : Op) (u : Nibble),
    exec (.noRow o u) s = .next { s with out := { s.out with silentTrace := s.out.silentTrace ++ [.noRow] } })

/-- A selection repeated at once leaves every register as it is and calls no Output Driver (42_interpreter.md R90
law 1). -/
def Obligations.SelectionsAreIdempotent : Prop :=
  ∀ (s t u : State) (i : Instr),
    i ∈ [Instr.camOn1, .camOn2, .camOn3, .camOn4, .scanOn, .allOff, .camOff1, .camOff2, .camOff3, .camOff4] →
    exec i s = .next t → exec i t = .next u →
    u = { t with out := { t.out with silentTrace := u.out.silentTrace } }

/-- STEP.NEXT after STEP.PREV, and the reverse, restores a camera in 1..`max_camera` (42_interpreter.md R90 law 3). -/
def Obligations.StepsUndoEachOther : Prop :=
  ∀ (s : State) (i j : Instr), (i, j) ∈ [(Instr.stepPrev, Instr.stepNext), (.stepNext, .stepPrev)] →
    2 ≤ s.latched.maxCamera.toNat → 1 ≤ s.camera.currentCamera.toNat →
    s.camera.currentCamera.toNat ≤ s.latched.maxCamera.toNat →
    ∃ u : State, execAll [i, j] s = .next u ∧ u.camera.currentCamera = s.camera.currentCamera

/-- After a command that found a row the inactivity count is 0, and the block scans only after SCAN.ON, after CAM.OFF n
with camera n current under the policy Scan, or after CAM.OFF n that left a running scan untouched: another camera
current, or the policy None (42_interpreter.md R90 laws 4 and 5). -/
def Obligations.CommandsRestartTheInactivityCount : Prop :=
  ∀ (s t : State) (i : Instr), i.format = .action → i.WellFormed s.ctx → (∀ o u, i ≠ .noRow o u) →
    exec i s = .next t →
    t.camera.inactivityCounter = 0 ∧
    (t.camera.scanActive = true → i = .scanOn ∨
      ∃ n : Slot, (i, n) ∈ [(Instr.camOff1, (1 : Slot)), (.camOff2, 2), (.camOff3, 3), (.camOff4, 4)] ∧
        ((s.camera.currentCamera = n ∧ s.latched.idleMode = .scan) ∨
          (s.camera.scanActive = true ∧ (s.camera.currentCamera ≠ n ∨ s.latched.idleMode = .none))))

/-! ## The Timer Process -/

/-- TICK.A: the scan or idle part, then the resync count; only the shared camera state, the Output Driver and the
timer's own registers are written, and the pending firing is cleared (43_timer.md R91, R93 to R95, D22 to D24;
60_exceptions.md R105, R107). -/
def Obligations.TickOfVariantA : Prop :=
  ∀ s : State, s.fixed.variant = .A →
    ∃ t : State, exec .tickA s = .next t ∧ ScanOrIdleEffect s t ∧
      t = { s with camera := t.camera, out := t.out, timer := t.timer } ∧
      ((s.timer.resyncCounter + 1).toNat < s.fixed.params.resyncThreshold →
        t.timer = { s.timer with tickPending := false, resyncCounter := s.timer.resyncCounter + 1 }) ∧
      (s.fixed.params.resyncThreshold ≤ (s.timer.resyncCounter + 1).toNat →
        t.timer = { s.timer with tickPending := false, resyncCounter := 0, wantResync := true })

/-- TICK.B: the token is cleared and the prescale counted, and the scan or idle part runs on the fifth base tick
only (43_timer.md R92, R93, R94, D22, D23, D26). -/
def Obligations.TickOfVariantB : Prop :=
  ∀ s : State, s.fixed.variant = .B →
    ((s.timer.prescaleCounter + 1).toNat ≠ 5 →
      exec .tickB s = .next { s with
        token := { s.token with dupValid := false }
        timer := { s.timer with tickPending := false, prescaleCounter := s.timer.prescaleCounter + 1 } }) ∧
    ((s.timer.prescaleCounter + 1).toNat = 5 →
      ∃ t : State, exec .tickB s = .next t ∧ ScanOrIdleEffect s t ∧
        t = { s with
          camera := t.camera
          out := t.out
          token := { s.token with dupValid := false }
          timer := { s.timer with tickPending := false, prescaleCounter := 0 } })

/-- The timer event saves nothing: a TickStep writes the shared camera state, `mux_slot` through a call of the Output
Driver, `dup_valid` and the timer's own registers at most, and never the decoders, the frame buffer, the tracking
registers or the latched configuration (60_exceptions.md R107). It clears the pending firing (R105). -/
def Obligations.TicksNeverWriteTheDecoders : Prop :=
  ∀ (s t : State), s.tickDue = true → step s = .next t →
    (∃ calls : List Slot, t = { s with
      camera := t.camera
      token := { s.token with dupValid := t.token.dupValid }
      timer := { t.timer with tickPending := false, timerMasked := s.timer.timerMasked }
      out := { s.out with muxSlot := calls.getLast?.getD s.out.muxSlot, odTrace := s.out.odTrace ++ calls } }) ∧
    (s.fixed.variant = .A → t.token = s.token ∧ t.timer.prescaleCounter = s.timer.prescaleCounter) ∧
    (s.fixed.variant = .B → t.timer.resyncCounter = s.timer.resyncCounter ∧
      t.timer.wantResync = s.timer.wantResync)

/-- While scanning with the count at 0, the T-th slow tick, and none before it, advances the camera, by one and
wrapping at `max_camera`, with T the threshold of the multiplier (43_timer.md R93, R97; 95_test_vectors.md Q7). -/
def Obligations.ScanAdvancesOncePerPeriod : Prop :=
  ∀ s : State, s.fixed.variant = .A → s.fixed.params.BoundsLegal → s.camera.scanActive = true →
    s.camera.scanCycleCounter = 0 →
    (∀ k : Nat, k < s.fixed.params.scanTicks s.latched.scanPeriodMultiplier →
      ∃ t : State, execAll (List.replicate k .tickA) s = .next t ∧
        t.camera = { s.camera with scanCycleCounter := BitVec.ofNat 8 k } ∧ t.out = s.out) ∧
    (∃ (t : State) (c : Slot),
      execAll (List.replicate (s.fixed.params.scanTicks s.latched.scanPeriodMultiplier) .tickA) s = .next t ∧
        c.toNat = (if s.latched.maxCamera.toNat ≤ s.camera.currentCamera.toNat then 1
          else s.camera.currentCamera.toNat + 1) ∧
        t.camera = { s.camera with currentCamera := c } ∧
        t.out = { s.out with muxSlot := c, odTrace := s.out.odTrace ++ [c] })

/-- Without a qualifying command and not scanning, the idle policy is applied at the slow tick after
`INACTIVITY_THRESHOLD` others, and not before (43_timer.md R94, D23; 95_test_vectors.md Q8). -/
def Obligations.IdlePolicyOncePerPeriod : Prop :=
  ∀ s : State, s.fixed.variant = .A → s.fixed.params.BoundsLegal → s.camera.scanActive = false →
    s.camera.inactivityCounter = 0 →
    (∀ k : Nat, k ≤ s.fixed.params.inactivityThreshold →
      ∃ t : State, execAll (List.replicate k .tickA) s = .next t ∧
        t.camera = { s.camera with inactivityCounter := BitVec.ofNat 8 k } ∧ t.out = s.out) ∧
    (∃ t : State, execAll (List.replicate (s.fixed.params.inactivityThreshold + 1) .tickA) s = .next t ∧
      (s.latched.idleMode = .scan →
        t.camera = { s.camera with scanActive := true, scanCycleCounter := 0 } ∧ t.out = s.out) ∧
      (s.latched.idleMode = .priorityCamera →
        t.camera = { s.camera with currentCamera := 1 } ∧
        t.out = if s.camera.currentCamera = 1 then s.out
          else { s.out with muxSlot := 1, odTrace := s.out.odTrace ++ [1] }) ∧
      (s.latched.idleMode = .none → t.camera = s.camera ∧ t.out = s.out))

/-- From a resync count of 0, `want_resync` is untouched by fewer than `RESYNC_THRESHOLD` ticks of variant A and is
1 after that many (43_timer.md R95, D24). -/
def Obligations.ResyncIsRequestedOncePerPeriod : Prop :=
  ∀ s : State, s.fixed.variant = .A → s.fixed.params.BoundsLegal → s.timer.resyncCounter = 0 →
    (∀ k : Nat, k < s.fixed.params.resyncThreshold →
      ∃ t : State, execAll (List.replicate k .tickA) s = .next t ∧
        t.timer.wantResync = s.timer.wantResync ∧ t.timer.resyncCounter = BitVec.ofNat 8 k) ∧
    (∃ t : State, execAll (List.replicate s.fixed.params.resyncThreshold .tickA) s = .next t ∧
      t.timer.wantResync = true ∧ t.timer.resyncCounter = 0)

/-- Five base ticks of variant B from a prescale of 0 are one slow tick (43_timer.md R92, D26). -/
def Obligations.FiveBaseTicksAreOneSlowTick : Prop :=
  ∀ s : State, s.fixed.variant = .B → s.timer.prescaleCounter = 0 →
    ∃ t : State, execAll (List.replicate 5 .tickB) s = .next t ∧ ScanOrIdleEffect s t ∧
      t = { s with
        camera := t.camera
        out := t.out
        token := { s.token with dupValid := false }
        timer := { s.timer with tickPending := false } }

/-- RESYNC where it is enabled clears the request and transmits `RESYNC_TX` (43_timer.md R96, D25). -/
def Obligations.ResyncStepConsumesTheRequest : Prop :=
  ∀ s : State, s.fixed.variant = .A → s.mode = .run → s.timer.wantResync = true → s.decA.aState = .idle →
    exec .resync s = .next { s with
      timer := { s.timer with wantResync := false }
      out := { s.out with txTrace := s.out.txTrace ++ s.fixed.params.resyncTx } }

/-! ## Reset and Resume -/

/-- RESET with a legal record: what every register holds after it, but those R118 leaves unspecified; the traces
begin anew with the one call of the Output Driver (70_reset_and_hazards.md R117 to R120, D28, D29; log 12). -/
def Obligations.ResetInitialisesTheBlock : Prop :=
  ∀ (s : State) (r : Record), r.Legal →
    ∃ (t : State) (c : Slot), exec (.reset r) s = .next t ∧
      c.toNat = (if r.idleMode = .priorityCamera then 1 else r.selectedCamera) ∧
      t.mode = .run ∧
      t.latched.maxCamera.toNat = r.maxCamera ∧ t.latched.scanPeriodMultiplier.val = r.scanPeriodMultiplier ∧
      t.latched.houseCode = r.houseCode ∧ t.latched.idleMode = r.idleMode ∧
      t.camera = { currentCamera := c, scanActive := r.idleMode = .scan, scanCycleCounter := 0,
                   inactivityCounter := 0 } ∧
      t.token.dupValid = false ∧ t.tracking = { lastHouse := none, lastUnit := none } ∧
      t.decA.aState = .idle ∧ t.decA.aLen = 0 ∧ t.decA.aIdx = 0 ∧ t.decA.aDiscardRem = 0 ∧
      t.decB.bIdx = .i0 ∧
      t.timer = { prescaleCounter := 0, resyncCounter := 0, wantResync := false, tickPending := false,
                  timerMasked := false } ∧
      t.out = { muxSlot := c, txTrace := [], odTrace := [c], reportTrace := [], silentTrace := [] } ∧
      t.fixed = s.fixed ∧ t.store = s.store ∧ t.stimulus = s.stimulus

/-- RESUME, in variant B and in Menu, with a legal record: as RESET (60_exceptions.md R111, D30), but the traces go on
(the model's reading, log 12), and `dup_value`, `b_h` and `b_u`, which R118 leaves unspecified, keep their values (the
model's choice, log 6). -/
def Obligations.ResumeRelaunchesTheBlock : Prop :=
  ∀ (s : State) (r : Record), s.fixed.variant = .B → s.mode = .menu → r.Legal →
    ∃ (t : State) (c : Slot), exec (.resume r) s = .next t ∧
      c.toNat = (if r.idleMode = .priorityCamera then 1 else r.selectedCamera) ∧
      t.mode = .run ∧
      t.latched.maxCamera.toNat = r.maxCamera ∧ t.latched.scanPeriodMultiplier.val = r.scanPeriodMultiplier ∧
      t.latched.houseCode = r.houseCode ∧ t.latched.idleMode = r.idleMode ∧
      t.camera = { currentCamera := c, scanActive := r.idleMode = .scan, scanCycleCounter := 0,
                   inactivityCounter := 0 } ∧
      t.token = { s.token with dupValid := false } ∧
      t.decB = { s.decB with bIdx := .i0 } ∧
      t.timer = { prescaleCounter := 0, resyncCounter := 0, wantResync := false, tickPending := false,
                  timerMasked := false } ∧
      t.out = { s.out with muxSlot := c, odTrace := s.out.odTrace ++ [c] } ∧
      t.fixed = s.fixed ∧ t.store = s.store ∧ t.stimulus = s.stimulus

/-- A record that breaks the invariant starts no execution; RESUME has no effect to take in variant A or in Run
(10_state.md R5, D32; 60_exceptions.md R111; log 14). -/
def Obligations.LaunchesOutsideTheSpecAreRefused : Prop :=
  (∀ (s : State) (r : Record), ¬ r.Legal → exec (.reset r) s = .refused .illegalRecord) ∧
  (∀ (s : State) (r : Record), s.fixed.variant = .B → s.mode = .menu → ¬ r.Legal →
    exec (.resume r) s = .refused .illegalRecord) ∧
  (∀ (s : State) (r : Record), s.fixed.variant = .A → exec (.resume r) s = .refused .notInThisVariant) ∧
  (∀ (s : State) (r : Record), s.fixed.variant = .B → s.mode = .run →
    exec (.resume r) s = .refused .notEnabled)

/-- The state the machine starts in is the one RESET leaves with the record the model names (70_reset_and_hazards.md
R117, R118; the record and the variant are the model's choice, log 4). -/
def Obligations.ResetStateIsWhatResetLeaves : Prop :=
  exec (.reset State.reset.store) State.reset = .next State.reset

/-- An event of one variant does not exist in an instance of the other: it stops by name there (00_scope.md R2;
log 14). -/
def Obligations.EventsOfTheOtherVariantAreRefused : Prop :=
  ∀ (s : State) (i : Instr),
    (s.fixed.variant = .B →
      i.format ∈ [Format.aFirst, .aDataCollect, .aDataDiscard, .aPayload] ∨ i = .tickA ∨ i = .resync →
      exec i s = .refused .notInThisVariant) ∧
    (s.fixed.variant = .A →
      i.format ∈ [Format.bPos0, .bPos1, .bPos2, .bPos3, .bPos4, .bFrame, .bU] ∨ i = .tickB →
      exec i s = .refused .notInThisVariant)

/-- RESYNC where one of its three conditions fails stops by name: the step does not occur there (43_timer.md R96;
log 14). -/
def Obligations.ResyncElsewhereIsRefused : Prop :=
  ∀ s : State, s.fixed.variant = .A →
    (s.mode = .menu ∨ s.timer.wantResync = false ∨ s.decA.aState ≠ .idle) →
    exec .resync s = .refused .notEnabled

/-! ## The whole machine -/

/-- The reset state meets the invariants (10_state.md R20). -/
def Obligations.ResetMeetsTheInvariants : Prop := State.reset.Inv

/-- Every step keeps the invariants of 10_state.md R20, the canonical form of the frame buffer among them. -/
def Obligations.StepKeepsTheInvariants : Prop :=
  ∀ s t : State, s.Inv → step s = .next t → t.Inv

/-- No step stops: where the invariants hold and the surroundings keep to their side, every step has an outcome that
is again a state with the invariants (60_exceptions.md R102). -/
def Obligations.NoStepStops : Prop :=
  ∀ s : State, s.Inv → (∀ x rest, s.stimulus = x :: rest → s.MayReceive x) →
    ∃ t : State, step s = .next t ∧ t.Inv

/-- An instance never changes its variant, and no step writes the tables (00_scope.md R2, D1; 10_state.md R22). -/
def Obligations.InstanceNeverChanges : Prop :=
  ∀ s t : State, step s = .next t → t.fixed = s.fixed

/-- Only Reset and Resume write the latched configuration, and no instruction writes the record (10_state.md R5, R6;
20_memory.md R33). -/
def Obligations.ConfigurationIsLatchedAtLaunchOnly : Prop :=
  ∀ (s t : State) (i : Instr), exec i s = .next t →
    t.store = s.store ∧ ((∀ r, i ≠ .reset r) → (∀ r, i ≠ .resume r) → t.latched = s.latched)

/-- The block transmits only the listed sequences, each as the reply or request it is, and variant B nothing
(30_encoding.md R46): for every instruction, and for every step. Only RESET, the step of a power cycle, empties the
trace, which is the model's reading (log 12). -/
def Obligations.OnlyTheListedBytesAreTransmitted : Prop :=
  (∀ (s t : State) (i : Instr), exec i s = .next t →
    ((∃ r, i = .reset r) ∧ t.out.txTrace = []) ∨
    ∃ bs : List Byte, t.out.txTrace = s.out.txTrace ++ bs ∧
      (bs = [] ∨ (s.fixed.variant = .A ∧
        ((i = .aPoll ∧ bs = [0xC3]) ∨ (i = .aNull ∧ bs = [0x00]) ∨
         (i = .aTimereq ∧ bs = [0x9B, 0x00, 0x00, 0x00, 0x00, 0x00, 0x00]) ∨
         (i = .resync ∧ bs = s.fixed.params.resyncTx))))) ∧
  (∀ s t : State, step s = .next t →
    (s.tickDue = false ∧ (∃ rest, s.stimulus = .powerUp :: rest) ∧ t.out.txTrace = []) ∨
    ∃ bs : List Byte, t.out.txTrace = s.out.txTrace ++ bs ∧
      (bs = [] ∨ (s.fixed.variant = .A ∧
        bs ∈ [[0xC3], [0x00], [0x9B, 0x00, 0x00, 0x00, 0x00, 0x00, 0x00], s.fixed.params.resyncTx])))

/-- `mux_slot` is the slot of the most recent call of the Output Driver (10_state.md R19; 42_interpreter.md R88). -/
def Obligations.MuxSlotIsTheLastCall : Prop :=
  ∀ (s t : State) (i : Instr), (∀ r, i ≠ .reset r) → exec i s = .next t →
    ∃ calls : List Slot, t.out.odTrace = s.out.odTrace ++ calls ∧
      t.out.muxSlot = calls.getLast?.getD s.out.muxSlot

/-- Only a desynchronization is reported, with its byte, and the report changes nothing that is transmitted
(60_exceptions.md R100, R101, D8, D35). -/
def Obligations.OnlyDesyncIsReported : Prop :=
  ∀ (s t : State) (i : Instr), (∀ r, i ≠ .reset r) → exec i s = .next t →
    (∀ b, i = .aDesync b →
      t.out.reportTrace = s.out.reportTrace ++ [{ condition := .desync, info := b }] ∧
      t.out.txTrace = s.out.txTrace) ∧
    ((∀ b, i ≠ .aDesync b) → t.out.reportTrace = s.out.reportTrace)

/-- Acts the surroundings are assumed never to do stop by name: a save of the record or an Output Driver call of the
menu in Run, such a call in variant A or with a slot above 4 (60_exceptions.md section 4; the model's choice, log 14).
No step stops for want of a row: every received byte has one (30_encoding.md R47; log 15). -/
def Obligations.ActsOutsideTheContractAreRefused : Prop :=
  (∀ (s : State) (rest : List Input), s.tickDue = false →
    (∀ r : Record, s.stimulus = .menuSave r :: rest → s.mode = .run → step s = .refused .outsideContract) ∧
    (∀ c : Slot, s.stimulus = .menuDrive c :: rest →
      (s.mode = .run ∨ s.fixed.variant = .A ∨ 4 < c.toNat) → step s = .refused .outsideContract)) ∧
  ∀ s : State, step s ≠ .refused .undecodable
end

