-- ==== Sys2Proof/Laws/Operands.lean ====
section
/-! SUPPORT. The fields of a byte and the lookups in the constant tables, each with its inverse. -/

namespace Sys2Proof

@[simp] theorem hiNibble_joinNibbles (h l : Nibble) : hiNibble (joinNibbles h l) = h := by
  revert h l; decide

@[simp] theorem loNibble_joinNibbles (h l : Nibble) : loNibble (joinNibbles h l) = l := by
  revert h l; decide

@[simp] theorem joinNibbles_nibbles (b : Byte) : joinNibbles (hiNibble b) (loNibble b) = b := by
  revert b; decide

theorem maskKind_above (mask : Byte) (k : Nat) (h : 7 < k) : maskKind mask k = .address := by
  simp [maskKind, BitVec.getLsbD_of_ge mask k (by omega)]

/-- In a list without repeats, the place of an entry is where it stands. -/
theorem idxOf_getElem_of_nodup {α : Type} [DecidableEq α] (l : List α) (h : l.Nodup) (n : Nat)
    (hn : n < l.length) : l.idxOf l[n] = n := h.idxOf_getElem n hn

/-- Every one of the sixteen function names is in a table of sixteen different ones. -/
theorem Params.funcName_mem (p : Params) (h : p.functionTableA.toList.Nodup) (f : FuncName) :
    f ∈ p.functionTableA.toList := by
  have hall : ∀ g : FuncName, g ∈ [FuncName.allUnitsOff, .allLightsOn, .on, .off, .dim, .bright, .allLightsOff,
      .extCode, .hailReq, .hailAck, .presetDim1, .presetDim2, .extData, .statusOn, .statusOff, .statusReq] := by
    intro g; cases g <;> decide
  have hsub : p.functionTableA.toList ⊆ [FuncName.allUnitsOff, .allLightsOn, .on, .off, .dim, .bright,
      .allLightsOff, .extCode, .hailReq, .hailAck, .presetDim1, .presetDim2, .extData, .statusOn, .statusOff,
      .statusReq] := fun g _ => hall g
  have hperm := (List.subperm_of_subset h hsub).perm_of_length_le (by simp)
  exact hperm.mem_iff.2 (hall f)

/-- The name of a function's code is that function. -/
theorem Params.funcName_funcCode (p : Params) (h : p.functionTableA.toList.Nodup) (f : FuncName) :
    p.funcName (p.funcCode f) = f := by
  have hlt := List.idxOf_lt_length_of_mem (p.funcName_mem h f)
  have h16 : p.functionTableA.toList.length = 16 := by simp
  have : (p.funcCode f).toNat = p.functionTableA.toList.idxOf f := by
    simp only [Params.funcCode, BitVec.toNat_ofNat]
    omega
  simp only [Params.funcName, this]
  have := List.getElem_idxOf hlt
  rwa [Vector.getElem_toList] at this

/-- The code of a code's name is that code. -/
theorem Params.funcCode_funcName (p : Params) (h : p.functionTableA.toList.Nodup) (n : Nibble) :
    p.funcCode (p.funcName n) = n := by
  have hn : n.toNat < p.functionTableA.toList.length := by simpa using n.isLt
  have := idxOf_getElem_of_nodup _ h n.toNat hn
  have hg : p.functionTableA.toList[n.toNat] = p.funcName n := by simp [Params.funcName]
  rw [hg] at this
  apply BitVec.eq_of_toNat_eq
  simp only [Params.funcCode, this, BitVec.toNat_ofNat]
  exact Nat.mod_eq_of_lt n.isLt

/-- A unit's raw byte has that unit's entry. -/
theorem Params.unitRow_unitCode (p : Params) (h : (p.unitOnB.toList ++ p.unitOffB.toList).Nodup) (k : Fin 6)
    (op : Op) : p.unitRow (p.unitCode k op) = some (k, op) := by
  rw [List.nodup_append] at h
  obtain ⟨hon, hoff, hdis⟩ := h
  have hk : k.val < 6 := k.isLt
  cases op with
  | on =>
    have hi : p.unitOnB.toList.idxOf (p.unitCode k .on) = k.val := by
      have := idxOf_getElem_of_nodup _ hon k.val (by simp)
      simpa [Params.unitCode, Params.unitColumn] using this
    simp [Params.unitRow, hi]
  | off =>
    have hi : p.unitOffB.toList.idxOf (p.unitCode k .off) = k.val := by
      have := idxOf_getElem_of_nodup _ hoff k.val (by simp)
      simpa [Params.unitCode, Params.unitColumn] using this
    have hmem : p.unitCode k .off ∈ p.unitOffB.toList := by
      have : p.unitOffB.toList[k.val]'(by simp) ∈ p.unitOffB.toList := List.getElem_mem _
      rwa [Vector.getElem_toList] at this
    have hno : p.unitCode k .off ∉ p.unitOnB.toList := fun hc => hdis _ hc _ hmem rfl
    have hlen : p.unitOnB.toList.idxOf (p.unitCode k .off) = 6 := by
      rw [List.idxOf_eq_length hno]; simp
    simp [Params.unitRow, hi, hlen]

/-- An entry's raw byte is the byte it was found for. -/
theorem Params.unitCode_of_unitRow (p : Params) (u : Byte) (k : Fin 6) (op : Op)
    (h : p.unitRow u = some (k, op)) : p.unitCode k op = u := by
  unfold Params.unitRow at h
  split at h
  · rename_i hlt
    cases h
    have := List.getElem_idxOf (xs := p.unitOnB.toList) (x := u) (by rw [Vector.length_toList]; exact hlt)
    rwa [Vector.getElem_toList] at this
  · split at h
    · rename_i hlt
      cases h
      have := List.getElem_idxOf (xs := p.unitOffB.toList) (x := u) (by rw [Vector.length_toList]; exact hlt)
      rwa [Vector.getElem_toList] at this
    · cases h

/-- Which rows of the action table there are (42_interpreter.md R77, R89). -/
theorem actionRow_eq_none_iff (M : Slot) (u : UnitNo) (op : Op) :
    actionRow M u op = none ↔ u ≠ 5 ∧ u ≠ 6 ∧ ¬ (1 ≤ u.toNat ∧ u.toNat ≤ 4 ∧ u.toNat ≤ M.toNat) := by
  cases op <;> simp only [actionRow] <;> split <;> simp_all <;> split <;> simp_all

/-- `prev` and `next` answer a camera up to `max_camera`, and never the one they are given (42_interpreter.md R87). -/
theorem prevSlot_range (M c : Slot) (h : 2 ≤ M.toNat) (hc : c.toNat ≤ M.toNat) :
    1 ≤ (prevSlot M c).toNat ∧ (prevSlot M c).toNat ≤ M.toNat ∧ prevSlot M c ≠ c := by
  revert M c; decide

theorem nextSlot_range (M c : Slot) (h : 2 ≤ M.toNat) (hc : c.toNat ≤ M.toNat) :
    1 ≤ (nextSlot M c).toNat ∧ (nextSlot M c).toNat ≤ M.toNat ∧ nextSlot M c ≠ c := by
  revert M c; decide

/-- The default parameters are legal (00_scope.md section 6). -/
theorem defaultParams_legal : defaultParams.Legal := by decide

end Sys2Proof
end

