-- ==== Sys2Proof/Laws/Decode.lean ====
section
/-! SUPPORT. For each part of the decoder, one lemma that says all it can answer. -/

namespace Sys2Proof

/-- The first bytes with a row of their own, and their rows (30_encoding.md R35). -/
def Laws.firstRows : List (Byte × Instr) :=
  [(0x5A, .aPoll), (0x00, .aNull), (0xA5, .aTimereq), (0x55, .aReady), (0x01, .aLen1), (0x02, .aLen2),
   (0x03, .aLen3), (0x04, .aLen4), (0x05, .aLen5), (0x06, .aLen6), (0x07, .aLen7), (0x08, .aLen8), (0x09, .aLen9)]

theorem decodeFirst_cases (b : Byte) :
    (b, decodeFirst b) ∈ Laws.firstRows ∨ (IsDesyncByte b ∧ decodeFirst b = .aDesync b) := by
  by_cases h : ∃ r ∈ Laws.firstRows, r.1 = b
  · left
    obtain ⟨r, hr, rfl⟩ := h
    have : ∀ r ∈ Laws.firstRows, (r.1, decodeFirst r.1) ∈ Laws.firstRows := by decide
    exact this r hr
  · right
    have hne : ∀ r ∈ Laws.firstRows, b ≠ r.1 := fun r hr e => h ⟨r, hr, e.symm⟩
    have hall : ∀ c : Byte, (∀ r ∈ Laws.firstRows, c ≠ r.1) → IsDesyncByte c := by decide
    refine ⟨hall b hne, ?_⟩
    unfold decodeFirst
    simp only [Laws.firstRows, List.forall_mem_cons] at hne
    obtain ⟨h0, h1, h2, h3, h4, h5, h6, h7, h8, h9, h10, h11, h12, -⟩ := hne
    rw [if_neg h0, if_neg h1, if_neg h2, if_neg h3, if_neg h4, if_neg h5, if_neg h6, if_neg h7, if_neg h8,
      if_neg h9, if_neg h10, if_neg h11, if_neg h12]

/-- The row of a first byte is well formed, and its byte is that one. -/
theorem decodeFirst_row (c : Ctx) (b : Byte) :
    (decodeFirst b).format = .aFirst ∧ (decodeFirst b).WellFormed c ∧ encode c (decodeFirst b) = [b] := by
  rcases decodeFirst_cases b with h | ⟨h, e⟩
  · have : ∀ r ∈ Laws.firstRows, r.2.format = .aFirst ∧ r.2.WellFormed c ∧ encode c r.2 = [r.1] := by
      simp only [Laws.firstRows, List.forall_mem_cons]
      refine ⟨?_, ?_, ?_, ?_, ?_, ?_, ?_, ?_, ?_, ?_, ?_, ?_, ?_, by simp⟩ <;> exact ⟨rfl, rfl, rfl⟩
    exact this _ h
  · rw [e]; exact ⟨rfl, decide_eq_true h, rfl⟩

/-- A desynchronizing byte is read as A.DESYNC. -/
theorem decodeFirst_desync (b : Byte) (h : IsDesyncByte b) : decodeFirst b = .aDesync b := by
  rcases decodeFirst_cases b with hr | ⟨-, e⟩
  · exfalso
    have : ∀ r ∈ Laws.firstRows, ¬ IsDesyncByte r.1 := by decide
    exact this _ hr h
  · exact e

/-- The two fields of an ACTION byte (30_encoding.md R50). -/
theorem actionByte_fields (o : Op) (u : Nibble) :
    (actionByte o u).toNat < 32 ∧ opOfBit ((actionByte o u).getLsbD 4) = o ∧ loNibble (actionByte o u) = u := by
  cases o <;> revert u <;> decide

theorem actionByte_of_fields (b : Byte) (h : b.toNat < 32) :
    actionByte (opOfBit (b.getLsbD 4)) (loNibble b) = b := by
  revert b; decide

/-- The ACTION row read from the two fields is well formed, and its byte has those fields. -/
theorem decodeAction_row (c : Ctx) (o : Op) (u : Nibble) :
    (decodeAction c.maxCamera o u).format = .action ∧ (decodeAction c.maxCamera o u).WellFormed c ∧
      encode c (decodeAction c.maxCamera o u) = [actionByte o u] := by
  obtain ⟨p, M⟩ := c
  have h : ∀ (M : Slot) (o : Op) (u : Nibble), (decodeAction M o u).format = .action ∧
      (decodeAction M o u).WellFormed ⟨defaultParams, M⟩ ∧ encode ⟨defaultParams, M⟩ (decodeAction M o u) = [actionByte o u] := by
    intro M o
    cases o <;> revert M <;> decide
  have hw : ∀ i : Instr, i.format = .action → i.wellFormed ⟨p, M⟩ = i.wellFormed ⟨defaultParams, M⟩ ∧ encode ⟨p, M⟩ i = encode ⟨defaultParams, M⟩ i := by
    intro i hi
    cases i <;> first | exact ⟨rfl, rfl⟩ | cases hi
  obtain ⟨h1, h2, h3⟩ := h M o u
  have := hw _ h1
  exact ⟨h1, this.1.trans h2, this.2.trans h3⟩

/-- The Function row of a name has that name's encoding, and decoding it gives the row (30_encoding.md R39, R42). -/
theorem funcInstr_row (c : Ctx) (h : Nibble) (f : FuncName) :
    (funcInstr h f).format = .aPayload ∧ (funcInstr h f).WellFormed c ∧
      encode c (funcInstr h f) = functionBytes c.params f h := by
  cases f <;> exact ⟨rfl, rfl, rfl⟩

/-- The B-U row of an entry is well formed, and its byte is the entry's (30_encoding.md R45). -/
theorem unitInstr_row (c : Ctx) (k : Fin 6) (op : Op) :
    (unitInstr k op).format = .bU ∧ (unitInstr k op).WellFormed c ∧
      encode c (unitInstr k op) = [c.params.unitCode k op] := by
  fin_cases k <;> cases op <;> exact ⟨rfl, rfl, rfl⟩

/-- The B-U row of a byte: the entry's, or B.U.OTHER where there is none (30_encoding.md R45). -/
theorem decodeUnit_cases (p : Params) (u : Byte) :
    (∃ k op, p.unitRow u = some (k, op) ∧ p.unitCode k op = u ∧ decodeUnit p u = unitInstr k op) ∨
    (p.unitRow u = none ∧ decodeUnit p u = .bUOther u) := by
  cases h : p.unitRow u with
  | none => exact .inr ⟨rfl, by simp [decodeUnit, h]⟩
  | some r => exact .inl ⟨r.1, r.2, rfl, p.unitCode_of_unitRow u r.1 r.2 h, by simp [decodeUnit, h]⟩

end Sys2Proof
end

