-- ==== Sys2Proof/Laws/Memory.lean ====
section
/-! SUPPORT. The frame buffer: read after write, and that every operation keeps the canonical form. -/

namespace Sys2Proof.Machine

theorem Memory.read_nil (a : Nat) : Memory.read [] a = Memory.unlisted := rfl

/-- An index below every listed one is not listed. -/
theorem Memory.read_of_lt (m : Memory) (a : Nat) (h : ∀ c ∈ m, a < c.1) : m.read a = Memory.unlisted := by
  induction m with
  | nil => rfl
  | cons x m ih =>
    obtain ⟨k, v⟩ := x
    have hk : a < k := h _ (List.mem_cons_self ..)
    simp only [Memory.read]
    rw [if_neg (by omega)]
    exact ih fun c hc => h c (List.mem_cons_of_mem _ hc)

/-- A byte reads back as it was stored. -/
theorem Memory.read_write_same (m : Memory) (a : Nat) (v : Byte) (hm : m.wf) : (m.write a v).read a = v := by
  induction m with
  | nil =>
    simp only [Memory.write]
    split <;> simp_all [Memory.read]
  | cons x m ih =>
    obtain ⟨k, w⟩ := x
    obtain ⟨hp, hv⟩ := hm
    rw [List.pairwise_cons] at hp
    have hrec := ih ⟨hp.2, fun c hc => hv c (List.mem_cons_of_mem _ hc)⟩
    simp only [Memory.write]
    split
    · rename_i hlt
      split
      · rename_i h0
        rw [h0]
        refine Memory.read_of_lt _ _ fun c hc => ?_
        rcases List.mem_cons.1 hc with rfl | hc
        · exact hlt
        · exact lt_trans hlt (hp.1 c hc)
      · simp [Memory.read]
    · split
      · rename_i heq
        subst heq
        split
        · rename_i h0
          rw [h0]
          exact Memory.read_of_lt _ _ fun c hc => hp.1 c hc
        · simp [Memory.read]
      · rename_i hne
        simp only [Memory.read]
        rw [if_neg (fun h => hne h.symm)]
        exact hrec

/-- A store leaves every other byte as it was. -/
theorem Memory.read_write_other (m : Memory) (a b : Nat) (v : Byte) (hne : b ≠ a) :
    (m.write a v).read b = m.read b := by
  induction m with
  | nil =>
    simp only [Memory.write]
    split
    · rfl
    · simp [Memory.read, Ne.symm hne]
  | cons x m ih =>
    obtain ⟨k, w⟩ := x
    simp only [Memory.write]
    split
    · split
      · rfl
      · simp [Memory.read, Ne.symm hne]
    · split
      · rename_i heq
        subst heq
        split <;> simp [Memory.read, Ne.symm hne]
      · simp only [Memory.read, ih]

/-- What a store lists: the stored byte, and entries that were there. -/
theorem Memory.mem_write (m : Memory) (a : Nat) (v : Byte) (c : Host.Cell) (h : c ∈ m.write a v) :
    (c = (a, v) ∧ v ≠ Memory.unlisted) ∨ c ∈ m := by
  induction m with
  | nil =>
    simp only [Memory.write] at h
    split at h <;> simp_all
  | cons x m ih =>
    obtain ⟨k, w⟩ := x
    simp only [Memory.write] at h
    split at h
    · split at h
      · exact .inr h
      · rcases List.mem_cons.1 h with rfl | h
        · exact .inl ⟨rfl, by assumption⟩
        · exact .inr h
    · split at h
      · split at h
        · exact .inr (List.mem_cons_of_mem _ h)
        · rcases List.mem_cons.1 h with rfl | h
          · exact .inl ⟨rfl, by assumption⟩
          · exact .inr (List.mem_cons_of_mem _ h)
      · rcases List.mem_cons.1 h with rfl | h
        · exact .inr (List.mem_cons_self ..)
        · exact (ih h).imp id (List.mem_cons_of_mem _)

/-- A store keeps the canonical form. -/
theorem Memory.write_wf (m : Memory) (a : Nat) (v : Byte) (hm : m.wf) : (m.write a v).wf := by
  refine ⟨?_, fun c hc => ?_⟩
  · induction m with
    | nil =>
      simp only [Memory.write]
      split <;> simp
    | cons x m ih =>
      obtain ⟨k, w⟩ := x
      obtain ⟨hp, hv⟩ := hm
      have hp' := List.pairwise_cons.1 hp
      simp only [Memory.write]
      split
      · rename_i hlt
        split
        · exact hp
        · refine List.pairwise_cons.2 ⟨fun c hc => ?_, hp⟩
          rcases List.mem_cons.1 hc with rfl | hc
          · exact hlt
          · exact lt_trans hlt (hp'.1 c hc)
      · split
        · rename_i heq
          subst heq
          split
          · exact hp'.2
          · exact List.pairwise_cons.2 ⟨hp'.1, hp'.2⟩
        · rename_i hlt hne
          refine List.pairwise_cons.2 ⟨fun c hc => ?_, ih ⟨hp'.2, fun c hc => hv c (List.mem_cons_of_mem _ hc)⟩⟩
          rcases Memory.mem_write m a v c hc with ⟨rfl, -⟩ | hc
          · show k < a
            omega
          · exact hp'.1 c hc
  · rcases Memory.mem_write m a v c hc with ⟨rfl, h⟩ | hc
    · exact h
    · exact hm.2 c hc

/-- A store inside the buffer lists nothing outside it. -/
theorem Memory.write_inBuffer (m : Memory) (a : Nat) (v : Byte) (hm : m.inBuffer) (ha : a < Config.bufferBytes) :
    (m.write a v).inBuffer := by
  intro c hc
  rcases Memory.mem_write m a v c hc with ⟨rfl, -⟩ | hc
  · exact ha
  · exact hm c hc

/-- The buffer at reset has the canonical form. -/
theorem State.reset_memory_wf : State.reset.decA.aBuf.wf ∧ State.reset.decA.aBuf.inBuffer := by decide

end Sys2Proof.Machine
end

