-- ==== Sys2Proof/Laws/State.lean ====
section
/-! SUPPORT. For each update of the state, what each field of the state is after it. -/

namespace Sys2Proof.Machine

section
variable (s : State)

/-! ### tx -/
@[simp] theorem State.tx_fixed (b : Byte) : (s.tx b).fixed = s.fixed := rfl
@[simp] theorem State.tx_store (b : Byte) : (s.tx b).store = s.store := rfl
@[simp] theorem State.tx_stimulus (b : Byte) : (s.tx b).stimulus = s.stimulus := rfl
@[simp] theorem State.tx_drawCount (b : Byte) : (s.tx b).drawCount = s.drawCount := rfl
@[simp] theorem State.tx_mode (b : Byte) : (s.tx b).mode = s.mode := rfl
@[simp] theorem State.tx_latched (b : Byte) : (s.tx b).latched = s.latched := rfl
@[simp] theorem State.tx_camera (b : Byte) : (s.tx b).camera = s.camera := rfl
@[simp] theorem State.tx_token (b : Byte) : (s.tx b).token = s.token := rfl
@[simp] theorem State.tx_tracking (b : Byte) : (s.tx b).tracking = s.tracking := rfl
@[simp] theorem State.tx_decA (b : Byte) : (s.tx b).decA = s.decA := rfl
@[simp] theorem State.tx_decB (b : Byte) : (s.tx b).decB = s.decB := rfl
@[simp] theorem State.tx_timer (b : Byte) : (s.tx b).timer = s.timer := rfl
@[simp] theorem State.tx_out (b : Byte) : (s.tx b).out = { s.out with txTrace := s.out.txTrace ++ [b] } := rfl

/-! ### txAll -/
@[simp] theorem State.txAll_fixed (bs : List Byte) : (s.txAll bs).fixed = s.fixed := rfl
@[simp] theorem State.txAll_store (bs : List Byte) : (s.txAll bs).store = s.store := rfl
@[simp] theorem State.txAll_stimulus (bs : List Byte) : (s.txAll bs).stimulus = s.stimulus := rfl
@[simp] theorem State.txAll_drawCount (bs : List Byte) : (s.txAll bs).drawCount = s.drawCount := rfl
@[simp] theorem State.txAll_mode (bs : List Byte) : (s.txAll bs).mode = s.mode := rfl
@[simp] theorem State.txAll_latched (bs : List Byte) : (s.txAll bs).latched = s.latched := rfl
@[simp] theorem State.txAll_camera (bs : List Byte) : (s.txAll bs).camera = s.camera := rfl
@[simp] theorem State.txAll_token (bs : List Byte) : (s.txAll bs).token = s.token := rfl
@[simp] theorem State.txAll_tracking (bs : List Byte) : (s.txAll bs).tracking = s.tracking := rfl
@[simp] theorem State.txAll_decA (bs : List Byte) : (s.txAll bs).decA = s.decA := rfl
@[simp] theorem State.txAll_decB (bs : List Byte) : (s.txAll bs).decB = s.decB := rfl
@[simp] theorem State.txAll_timer (bs : List Byte) : (s.txAll bs).timer = s.timer := rfl
@[simp] theorem State.txAll_out (bs : List Byte) :
    (s.txAll bs).out =
      { s.out with txTrace := s.out.txTrace ++ bs } := rfl

/-! ### outputDriver -/
@[simp] theorem State.outputDriver_fixed (c : Slot) : (s.outputDriver c).fixed = s.fixed := rfl
@[simp] theorem State.outputDriver_store (c : Slot) : (s.outputDriver c).store = s.store := rfl
@[simp] theorem State.outputDriver_stimulus (c : Slot) : (s.outputDriver c).stimulus = s.stimulus := rfl
@[simp] theorem State.outputDriver_drawCount (c : Slot) : (s.outputDriver c).drawCount = s.drawCount := rfl
@[simp] theorem State.outputDriver_mode (c : Slot) : (s.outputDriver c).mode = s.mode := rfl
@[simp] theorem State.outputDriver_latched (c : Slot) : (s.outputDriver c).latched = s.latched := rfl
@[simp] theorem State.outputDriver_camera (c : Slot) : (s.outputDriver c).camera = s.camera := rfl
@[simp] theorem State.outputDriver_token (c : Slot) : (s.outputDriver c).token = s.token := rfl
@[simp] theorem State.outputDriver_tracking (c : Slot) : (s.outputDriver c).tracking = s.tracking := rfl
@[simp] theorem State.outputDriver_decA (c : Slot) : (s.outputDriver c).decA = s.decA := rfl
@[simp] theorem State.outputDriver_decB (c : Slot) : (s.outputDriver c).decB = s.decB := rfl
@[simp] theorem State.outputDriver_timer (c : Slot) : (s.outputDriver c).timer = s.timer := rfl
@[simp] theorem State.outputDriver_out (c : Slot) :
    (s.outputDriver c).out =
      { s.out with muxSlot := c, odTrace := s.out.odTrace ++ [c] } := rfl

/-! ### report -/
@[simp] theorem State.report_fixed (c : Condition) (b : Byte) : (s.report c b).fixed = s.fixed := rfl
@[simp] theorem State.report_store (c : Condition) (b : Byte) : (s.report c b).store = s.store := rfl
@[simp] theorem State.report_stimulus (c : Condition) (b : Byte) : (s.report c b).stimulus = s.stimulus := rfl
@[simp] theorem State.report_drawCount (c : Condition) (b : Byte) : (s.report c b).drawCount = s.drawCount := rfl
@[simp] theorem State.report_mode (c : Condition) (b : Byte) : (s.report c b).mode = s.mode := rfl
@[simp] theorem State.report_latched (c : Condition) (b : Byte) : (s.report c b).latched = s.latched := rfl
@[simp] theorem State.report_camera (c : Condition) (b : Byte) : (s.report c b).camera = s.camera := rfl
@[simp] theorem State.report_token (c : Condition) (b : Byte) : (s.report c b).token = s.token := rfl
@[simp] theorem State.report_tracking (c : Condition) (b : Byte) : (s.report c b).tracking = s.tracking := rfl
@[simp] theorem State.report_decA (c : Condition) (b : Byte) : (s.report c b).decA = s.decA := rfl
@[simp] theorem State.report_decB (c : Condition) (b : Byte) : (s.report c b).decB = s.decB := rfl
@[simp] theorem State.report_timer (c : Condition) (b : Byte) : (s.report c b).timer = s.timer := rfl
@[simp] theorem State.report_out (c : Condition) (b : Byte) :
    (s.report c b).out =
      { s.out with reportTrace := s.out.reportTrace ++ [{ condition := c, info := b }] } := rfl

/-! ### note -/
@[simp] theorem State.note_fixed (c : Condition) : (s.note c).fixed = s.fixed := rfl
@[simp] theorem State.note_store (c : Condition) : (s.note c).store = s.store := rfl
@[simp] theorem State.note_stimulus (c : Condition) : (s.note c).stimulus = s.stimulus := rfl
@[simp] theorem State.note_drawCount (c : Condition) : (s.note c).drawCount = s.drawCount := rfl
@[simp] theorem State.note_mode (c : Condition) : (s.note c).mode = s.mode := rfl
@[simp] theorem State.note_latched (c : Condition) : (s.note c).latched = s.latched := rfl
@[simp] theorem State.note_camera (c : Condition) : (s.note c).camera = s.camera := rfl
@[simp] theorem State.note_token (c : Condition) : (s.note c).token = s.token := rfl
@[simp] theorem State.note_tracking (c : Condition) : (s.note c).tracking = s.tracking := rfl
@[simp] theorem State.note_decA (c : Condition) : (s.note c).decA = s.decA := rfl
@[simp] theorem State.note_decB (c : Condition) : (s.note c).decB = s.decB := rfl
@[simp] theorem State.note_timer (c : Condition) : (s.note c).timer = s.timer := rfl
@[simp] theorem State.note_out (c : Condition) :
    (s.note c).out =
      { s.out with silentTrace := s.out.silentTrace ++ [c] } := rfl

/-! ### enableScan -/
@[simp] theorem State.enableScan_fixed : (s.enableScan).fixed = s.fixed := rfl
@[simp] theorem State.enableScan_store : (s.enableScan).store = s.store := rfl
@[simp] theorem State.enableScan_stimulus : (s.enableScan).stimulus = s.stimulus := rfl
@[simp] theorem State.enableScan_drawCount : (s.enableScan).drawCount = s.drawCount := rfl
@[simp] theorem State.enableScan_mode : (s.enableScan).mode = s.mode := rfl
@[simp] theorem State.enableScan_latched : (s.enableScan).latched = s.latched := rfl
@[simp] theorem State.enableScan_camera : (s.enableScan).camera = s.camera.enableScan := rfl
@[simp] theorem State.enableScan_token : (s.enableScan).token = s.token := rfl
@[simp] theorem State.enableScan_tracking : (s.enableScan).tracking = s.tracking := rfl
@[simp] theorem State.enableScan_decA : (s.enableScan).decA = s.decA := rfl
@[simp] theorem State.enableScan_decB : (s.enableScan).decB = s.decB := rfl
@[simp] theorem State.enableScan_timer : (s.enableScan).timer = s.timer := rfl
@[simp] theorem State.enableScan_out : (s.enableScan).out = s.out := rfl

/-! ### qualify -/
@[simp] theorem State.qualify_fixed : (s.qualify).fixed = s.fixed := rfl
@[simp] theorem State.qualify_store : (s.qualify).store = s.store := rfl
@[simp] theorem State.qualify_stimulus : (s.qualify).stimulus = s.stimulus := rfl
@[simp] theorem State.qualify_drawCount : (s.qualify).drawCount = s.drawCount := rfl
@[simp] theorem State.qualify_mode : (s.qualify).mode = s.mode := rfl
@[simp] theorem State.qualify_latched : (s.qualify).latched = s.latched := rfl
@[simp] theorem State.qualify_camera : (s.qualify).camera = { s.camera with inactivityCounter := 0 } := rfl
@[simp] theorem State.qualify_token : (s.qualify).token = s.token := rfl
@[simp] theorem State.qualify_tracking : (s.qualify).tracking = s.tracking := rfl
@[simp] theorem State.qualify_decA : (s.qualify).decA = s.decA := rfl
@[simp] theorem State.qualify_decB : (s.qualify).decB = s.decB := rfl
@[simp] theorem State.qualify_timer : (s.qualify).timer = s.timer := rfl
@[simp] theorem State.qualify_out : (s.qualify).out = s.out := rfl

/-! ### addressEvent -/
@[simp] theorem State.addressEvent_fixed (l : House) (d : Nibble) : (s.addressEvent l d).fixed = s.fixed := rfl
@[simp] theorem State.addressEvent_store (l : House) (d : Nibble) : (s.addressEvent l d).store = s.store := rfl
@[simp] theorem State.addressEvent_stimulus (l : House) (d : Nibble) :
    (s.addressEvent l d).stimulus =
      s.stimulus := rfl
@[simp] theorem State.addressEvent_drawCount (l : House) (d : Nibble) :
    (s.addressEvent l d).drawCount =
      s.drawCount := rfl
@[simp] theorem State.addressEvent_mode (l : House) (d : Nibble) : (s.addressEvent l d).mode = s.mode := rfl
@[simp] theorem State.addressEvent_latched (l : House) (d : Nibble) : (s.addressEvent l d).latched = s.latched := rfl
@[simp] theorem State.addressEvent_camera (l : House) (d : Nibble) : (s.addressEvent l d).camera = s.camera := rfl
@[simp] theorem State.addressEvent_token (l : House) (d : Nibble) : (s.addressEvent l d).token = s.token := rfl
@[simp] theorem State.addressEvent_tracking (l : House) (d : Nibble) :
    (s.addressEvent l d).tracking =
      { lastHouse := some l, lastUnit := some (s.fixed.params.unitA d) } := rfl
@[simp] theorem State.addressEvent_decA (l : House) (d : Nibble) : (s.addressEvent l d).decA = s.decA := rfl
@[simp] theorem State.addressEvent_decB (l : House) (d : Nibble) : (s.addressEvent l d).decB = s.decB := rfl
@[simp] theorem State.addressEvent_timer (l : House) (d : Nibble) : (s.addressEvent l d).timer = s.timer := rfl
@[simp] theorem State.addressEvent_out (l : House) (d : Nibble) : (s.addressEvent l d).out = s.out := rfl

/-! ### startFrame -/
@[simp] theorem State.startFrame_fixed (n : BitVec 4) : (s.startFrame n).fixed = s.fixed := rfl
@[simp] theorem State.startFrame_store (n : BitVec 4) : (s.startFrame n).store = s.store := rfl
@[simp] theorem State.startFrame_stimulus (n : BitVec 4) : (s.startFrame n).stimulus = s.stimulus := rfl
@[simp] theorem State.startFrame_drawCount (n : BitVec 4) : (s.startFrame n).drawCount = s.drawCount := rfl
@[simp] theorem State.startFrame_mode (n : BitVec 4) : (s.startFrame n).mode = s.mode := rfl
@[simp] theorem State.startFrame_latched (n : BitVec 4) : (s.startFrame n).latched = s.latched := rfl
@[simp] theorem State.startFrame_camera (n : BitVec 4) : (s.startFrame n).camera = s.camera := rfl
@[simp] theorem State.startFrame_token (n : BitVec 4) : (s.startFrame n).token = s.token := rfl
@[simp] theorem State.startFrame_tracking (n : BitVec 4) : (s.startFrame n).tracking = s.tracking := rfl
@[simp] theorem State.startFrame_decA (n : BitVec 4) :
    (s.startFrame n).decA =
      { s.decA with aState := .collect, aLen := n, aIdx := 0 } := rfl
@[simp] theorem State.startFrame_decB (n : BitVec 4) : (s.startFrame n).decB = s.decB := rfl
@[simp] theorem State.startFrame_timer (n : BitVec 4) : (s.startFrame n).timer = s.timer := rfl
@[simp] theorem State.startFrame_out (n : BitVec 4) : (s.startFrame n).out = s.out := rfl

/-! ### desync -/
@[simp] theorem State.desync_fixed (b : Byte) (d : Nat) : (s.desync b d).fixed = s.fixed := rfl
@[simp] theorem State.desync_store (b : Byte) (d : Nat) : (s.desync b d).store = s.store := rfl
@[simp] theorem State.desync_stimulus (b : Byte) (d : Nat) : (s.desync b d).stimulus = s.stimulus := rfl
@[simp] theorem State.desync_drawCount (b : Byte) (d : Nat) : (s.desync b d).drawCount = s.drawCount + 1 := rfl
@[simp] theorem State.desync_mode (b : Byte) (d : Nat) : (s.desync b d).mode = s.mode := rfl
@[simp] theorem State.desync_latched (b : Byte) (d : Nat) : (s.desync b d).latched = s.latched := rfl
@[simp] theorem State.desync_camera (b : Byte) (d : Nat) : (s.desync b d).camera = s.camera := rfl
@[simp] theorem State.desync_token (b : Byte) (d : Nat) : (s.desync b d).token = s.token := rfl
@[simp] theorem State.desync_tracking (b : Byte) (d : Nat) : (s.desync b d).tracking = s.tracking := rfl
@[simp] theorem State.desync_decA (b : Byte) (d : Nat) :
    (s.desync b d).decA =
      { s.decA with aDiscardRem := BitVec.ofNat 8 d, aState := if d = 0 then .idle else .discard } := rfl
@[simp] theorem State.desync_decB (b : Byte) (d : Nat) : (s.desync b d).decB = s.decB := rfl
@[simp] theorem State.desync_timer (b : Byte) (d : Nat) : (s.desync b d).timer = s.timer := rfl
@[simp] theorem State.desync_out (b : Byte) (d : Nat) :
    (s.desync b d).out =
      { s.out with reportTrace := s.out.reportTrace ++ [{ condition := .desync, info := b }] } := rfl

/-! ### toBoundaryA -/
@[simp] theorem State.toBoundaryA_fixed : (s.toBoundaryA).fixed = s.fixed := rfl
@[simp] theorem State.toBoundaryA_store : (s.toBoundaryA).store = s.store := rfl
@[simp] theorem State.toBoundaryA_stimulus : (s.toBoundaryA).stimulus = s.stimulus := rfl
@[simp] theorem State.toBoundaryA_drawCount : (s.toBoundaryA).drawCount = s.drawCount := rfl
@[simp] theorem State.toBoundaryA_mode : (s.toBoundaryA).mode = s.mode := rfl
@[simp] theorem State.toBoundaryA_latched : (s.toBoundaryA).latched = s.latched := rfl
@[simp] theorem State.toBoundaryA_camera : (s.toBoundaryA).camera = s.camera := rfl
@[simp] theorem State.toBoundaryA_token : (s.toBoundaryA).token = s.token := rfl
@[simp] theorem State.toBoundaryA_tracking : (s.toBoundaryA).tracking = s.tracking := rfl
@[simp] theorem State.toBoundaryA_decA : (s.toBoundaryA).decA = { s.decA with aState := .idle } := rfl
@[simp] theorem State.toBoundaryA_decB : (s.toBoundaryA).decB = s.decB := rfl
@[simp] theorem State.toBoundaryA_timer : (s.toBoundaryA).timer = s.timer := rfl
@[simp] theorem State.toBoundaryA_out : (s.toBoundaryA).out = s.out := rfl

/-! ### storeByte -/
@[simp] theorem State.storeByte_fixed (b : Byte) : (s.storeByte b).fixed = s.fixed := rfl
@[simp] theorem State.storeByte_store (b : Byte) : (s.storeByte b).store = s.store := rfl
@[simp] theorem State.storeByte_stimulus (b : Byte) : (s.storeByte b).stimulus = s.stimulus := rfl
@[simp] theorem State.storeByte_drawCount (b : Byte) : (s.storeByte b).drawCount = s.drawCount := rfl
@[simp] theorem State.storeByte_mode (b : Byte) : (s.storeByte b).mode = s.mode := rfl
@[simp] theorem State.storeByte_latched (b : Byte) : (s.storeByte b).latched = s.latched := rfl
@[simp] theorem State.storeByte_camera (b : Byte) : (s.storeByte b).camera = s.camera := rfl
@[simp] theorem State.storeByte_token (b : Byte) : (s.storeByte b).token = s.token := rfl
@[simp] theorem State.storeByte_tracking (b : Byte) : (s.storeByte b).tracking = s.tracking := rfl
@[simp] theorem State.storeByte_decA (b : Byte) :
    (s.storeByte b).decA =
      { s.decA with aBuf := s.decA.aBuf.write s.decA.aIdx.toNat b, aIdx := s.decA.aIdx + 1 } := rfl
@[simp] theorem State.storeByte_decB (b : Byte) : (s.storeByte b).decB = s.decB := rfl
@[simp] theorem State.storeByte_timer (b : Byte) : (s.storeByte b).timer = s.timer := rfl
@[simp] theorem State.storeByte_out (b : Byte) : (s.storeByte b).out = s.out := rfl

/-! ### discard -/
@[simp] theorem State.discard_fixed : (s.discard).fixed = s.fixed := rfl
@[simp] theorem State.discard_store : (s.discard).store = s.store := rfl
@[simp] theorem State.discard_stimulus : (s.discard).stimulus = s.stimulus := rfl
@[simp] theorem State.discard_drawCount : (s.discard).drawCount = s.drawCount := rfl
@[simp] theorem State.discard_mode : (s.discard).mode = s.mode := rfl
@[simp] theorem State.discard_latched : (s.discard).latched = s.latched := rfl
@[simp] theorem State.discard_camera : (s.discard).camera = s.camera := rfl
@[simp] theorem State.discard_token : (s.discard).token = s.token := rfl
@[simp] theorem State.discard_tracking : (s.discard).tracking = s.tracking := rfl
@[simp] theorem State.discard_decA :
    (s.discard).decA =
      { s.decA with aDiscardRem := s.decA.aDiscardRem - 1, aState := if s.decA.aDiscardRem - 1 = 0 then .idle else s.decA.aState } := rfl
@[simp] theorem State.discard_decB : (s.discard).decB = s.decB := rfl
@[simp] theorem State.discard_timer : (s.discard).timer = s.timer := rfl
@[simp] theorem State.discard_out : (s.discard).out = s.out := rfl

/-! ### setBIdx -/
@[simp] theorem State.setBIdx_fixed (k : BIdx) : (s.setBIdx k).fixed = s.fixed := rfl
@[simp] theorem State.setBIdx_store (k : BIdx) : (s.setBIdx k).store = s.store := rfl
@[simp] theorem State.setBIdx_stimulus (k : BIdx) : (s.setBIdx k).stimulus = s.stimulus := rfl
@[simp] theorem State.setBIdx_drawCount (k : BIdx) : (s.setBIdx k).drawCount = s.drawCount := rfl
@[simp] theorem State.setBIdx_mode (k : BIdx) : (s.setBIdx k).mode = s.mode := rfl
@[simp] theorem State.setBIdx_latched (k : BIdx) : (s.setBIdx k).latched = s.latched := rfl
@[simp] theorem State.setBIdx_camera (k : BIdx) : (s.setBIdx k).camera = s.camera := rfl
@[simp] theorem State.setBIdx_token (k : BIdx) : (s.setBIdx k).token = s.token := rfl
@[simp] theorem State.setBIdx_tracking (k : BIdx) : (s.setBIdx k).tracking = s.tracking := rfl
@[simp] theorem State.setBIdx_decA (k : BIdx) : (s.setBIdx k).decA = s.decA := rfl
@[simp] theorem State.setBIdx_decB (k : BIdx) : (s.setBIdx k).decB = { s.decB with bIdx := k } := rfl
@[simp] theorem State.setBIdx_timer (k : BIdx) : (s.setBIdx k).timer = s.timer := rfl
@[simp] theorem State.setBIdx_out (k : BIdx) : (s.setBIdx k).out = s.out := rfl

/-! ### mismatch -/
@[simp] theorem State.mismatch_fixed : (s.mismatch).fixed = s.fixed := rfl
@[simp] theorem State.mismatch_store : (s.mismatch).store = s.store := rfl
@[simp] theorem State.mismatch_stimulus : (s.mismatch).stimulus = s.stimulus := rfl
@[simp] theorem State.mismatch_drawCount : (s.mismatch).drawCount = s.drawCount := rfl
@[simp] theorem State.mismatch_mode : (s.mismatch).mode = s.mode := rfl
@[simp] theorem State.mismatch_latched : (s.mismatch).latched = s.latched := rfl
@[simp] theorem State.mismatch_camera : (s.mismatch).camera = s.camera := rfl
@[simp] theorem State.mismatch_token : (s.mismatch).token = s.token := rfl
@[simp] theorem State.mismatch_tracking : (s.mismatch).tracking = s.tracking := rfl
@[simp] theorem State.mismatch_decA : (s.mismatch).decA = s.decA := rfl
@[simp] theorem State.mismatch_decB : (s.mismatch).decB = { s.decB with bIdx := .i0 } := rfl
@[simp] theorem State.mismatch_timer : (s.mismatch).timer = s.timer := rfl
@[simp] theorem State.mismatch_out :
    (s.mismatch).out =
      { s.out with silentTrace := s.out.silentTrace ++ [.malformed] } := rfl

/-! ### posH -/
@[simp] theorem State.posH_fixed (b : Byte) : (s.posH b).fixed = s.fixed := rfl
@[simp] theorem State.posH_store (b : Byte) : (s.posH b).store = s.store := rfl
@[simp] theorem State.posH_stimulus (b : Byte) : (s.posH b).stimulus = s.stimulus := rfl
@[simp] theorem State.posH_drawCount (b : Byte) : (s.posH b).drawCount = s.drawCount := rfl
@[simp] theorem State.posH_mode (b : Byte) : (s.posH b).mode = s.mode := rfl
@[simp] theorem State.posH_latched (b : Byte) : (s.posH b).latched = s.latched := rfl
@[simp] theorem State.posH_camera (b : Byte) : (s.posH b).camera = s.camera := rfl
@[simp] theorem State.posH_token (b : Byte) : (s.posH b).token = s.token := rfl
@[simp] theorem State.posH_tracking (b : Byte) : (s.posH b).tracking = s.tracking := rfl
@[simp] theorem State.posH_decA (b : Byte) : (s.posH b).decA = s.decA := rfl
@[simp] theorem State.posH_decB (b : Byte) : (s.posH b).decB = { s.decB with bIdx := .i3, bH := b } := rfl
@[simp] theorem State.posH_timer (b : Byte) : (s.posH b).timer = s.timer := rfl
@[simp] theorem State.posH_out (b : Byte) : (s.posH b).out = s.out := rfl

/-! ### posU -/
@[simp] theorem State.posU_fixed (b : Byte) : (s.posU b).fixed = s.fixed := rfl
@[simp] theorem State.posU_store (b : Byte) : (s.posU b).store = s.store := rfl
@[simp] theorem State.posU_stimulus (b : Byte) : (s.posU b).stimulus = s.stimulus := rfl
@[simp] theorem State.posU_drawCount (b : Byte) : (s.posU b).drawCount = s.drawCount := rfl
@[simp] theorem State.posU_mode (b : Byte) : (s.posU b).mode = s.mode := rfl
@[simp] theorem State.posU_latched (b : Byte) : (s.posU b).latched = s.latched := rfl
@[simp] theorem State.posU_camera (b : Byte) : (s.posU b).camera = s.camera := rfl
@[simp] theorem State.posU_token (b : Byte) : (s.posU b).token = s.token := rfl
@[simp] theorem State.posU_tracking (b : Byte) : (s.posU b).tracking = s.tracking := rfl
@[simp] theorem State.posU_decA (b : Byte) : (s.posU b).decA = s.decA := rfl
@[simp] theorem State.posU_decB (b : Byte) : (s.posU b).decB = { s.decB with bIdx := .i4, bU := b } := rfl
@[simp] theorem State.posU_timer (b : Byte) : (s.posU b).timer = s.timer := rfl
@[simp] theorem State.posU_out (b : Byte) : (s.posU b).out = s.out := rfl

/-! ### setInactivity -/
@[simp] theorem State.setInactivity_fixed (n : Counter) : (s.setInactivity n).fixed = s.fixed := rfl
@[simp] theorem State.setInactivity_store (n : Counter) : (s.setInactivity n).store = s.store := rfl
@[simp] theorem State.setInactivity_stimulus (n : Counter) : (s.setInactivity n).stimulus = s.stimulus := rfl
@[simp] theorem State.setInactivity_drawCount (n : Counter) : (s.setInactivity n).drawCount = s.drawCount := rfl
@[simp] theorem State.setInactivity_mode (n : Counter) : (s.setInactivity n).mode = s.mode := rfl
@[simp] theorem State.setInactivity_latched (n : Counter) : (s.setInactivity n).latched = s.latched := rfl
@[simp] theorem State.setInactivity_camera (n : Counter) :
    (s.setInactivity n).camera =
      { s.camera with inactivityCounter := n } := rfl
@[simp] theorem State.setInactivity_token (n : Counter) : (s.setInactivity n).token = s.token := rfl
@[simp] theorem State.setInactivity_tracking (n : Counter) : (s.setInactivity n).tracking = s.tracking := rfl
@[simp] theorem State.setInactivity_decA (n : Counter) : (s.setInactivity n).decA = s.decA := rfl
@[simp] theorem State.setInactivity_decB (n : Counter) : (s.setInactivity n).decB = s.decB := rfl
@[simp] theorem State.setInactivity_timer (n : Counter) : (s.setInactivity n).timer = s.timer := rfl
@[simp] theorem State.setInactivity_out (n : Counter) : (s.setInactivity n).out = s.out := rfl

/-! ### clearPending -/
@[simp] theorem State.clearPending_fixed : (s.clearPending).fixed = s.fixed := rfl
@[simp] theorem State.clearPending_store : (s.clearPending).store = s.store := rfl
@[simp] theorem State.clearPending_stimulus : (s.clearPending).stimulus = s.stimulus := rfl
@[simp] theorem State.clearPending_drawCount : (s.clearPending).drawCount = s.drawCount := rfl
@[simp] theorem State.clearPending_mode : (s.clearPending).mode = s.mode := rfl
@[simp] theorem State.clearPending_latched : (s.clearPending).latched = s.latched := rfl
@[simp] theorem State.clearPending_camera : (s.clearPending).camera = s.camera := rfl
@[simp] theorem State.clearPending_token : (s.clearPending).token = s.token := rfl
@[simp] theorem State.clearPending_tracking : (s.clearPending).tracking = s.tracking := rfl
@[simp] theorem State.clearPending_decA : (s.clearPending).decA = s.decA := rfl
@[simp] theorem State.clearPending_decB : (s.clearPending).decB = s.decB := rfl
@[simp] theorem State.clearPending_timer : (s.clearPending).timer = { s.timer with tickPending := false } := rfl
@[simp] theorem State.clearPending_out : (s.clearPending).out = s.out := rfl

/-! ### resyncStep -/
@[simp] theorem State.resyncStep_fixed : (s.resyncStep).fixed = s.fixed := rfl
@[simp] theorem State.resyncStep_store : (s.resyncStep).store = s.store := rfl
@[simp] theorem State.resyncStep_stimulus : (s.resyncStep).stimulus = s.stimulus := rfl
@[simp] theorem State.resyncStep_drawCount : (s.resyncStep).drawCount = s.drawCount := rfl
@[simp] theorem State.resyncStep_mode : (s.resyncStep).mode = s.mode := rfl
@[simp] theorem State.resyncStep_latched : (s.resyncStep).latched = s.latched := rfl
@[simp] theorem State.resyncStep_camera : (s.resyncStep).camera = s.camera := rfl
@[simp] theorem State.resyncStep_token : (s.resyncStep).token = s.token := rfl
@[simp] theorem State.resyncStep_tracking : (s.resyncStep).tracking = s.tracking := rfl
@[simp] theorem State.resyncStep_decA : (s.resyncStep).decA = s.decA := rfl
@[simp] theorem State.resyncStep_decB : (s.resyncStep).decB = s.decB := rfl
@[simp] theorem State.resyncStep_timer : (s.resyncStep).timer = { s.timer with wantResync := false } := rfl
@[simp] theorem State.resyncStep_out :
    (s.resyncStep).out =
      { s.out with txTrace := s.out.txTrace ++ s.fixed.params.resyncTx } := rfl

/-! ### mask -/
@[simp] theorem State.mask_fixed : (s.mask).fixed = s.fixed := rfl
@[simp] theorem State.mask_store : (s.mask).store = s.store := rfl
@[simp] theorem State.mask_stimulus : (s.mask).stimulus = s.stimulus := rfl
@[simp] theorem State.mask_drawCount : (s.mask).drawCount = s.drawCount := rfl
@[simp] theorem State.mask_mode : (s.mask).mode = s.mode := rfl
@[simp] theorem State.mask_latched : (s.mask).latched = s.latched := rfl
@[simp] theorem State.mask_camera : (s.mask).camera = s.camera := rfl
@[simp] theorem State.mask_token : (s.mask).token = s.token := rfl
@[simp] theorem State.mask_tracking : (s.mask).tracking = s.tracking := rfl
@[simp] theorem State.mask_decA : (s.mask).decA = s.decA := rfl
@[simp] theorem State.mask_decB : (s.mask).decB = s.decB := rfl
@[simp] theorem State.mask_timer : (s.mask).timer = { s.timer with timerMasked := true } := rfl
@[simp] theorem State.mask_out : (s.mask).out = s.out := rfl

/-! ### unmask -/
@[simp] theorem State.unmask_fixed : (s.unmask).fixed = s.fixed := rfl
@[simp] theorem State.unmask_store : (s.unmask).store = s.store := rfl
@[simp] theorem State.unmask_stimulus : (s.unmask).stimulus = s.stimulus := rfl
@[simp] theorem State.unmask_drawCount : (s.unmask).drawCount = s.drawCount := rfl
@[simp] theorem State.unmask_mode : (s.unmask).mode = s.mode := rfl
@[simp] theorem State.unmask_latched : (s.unmask).latched = s.latched := rfl
@[simp] theorem State.unmask_camera : (s.unmask).camera = s.camera := rfl
@[simp] theorem State.unmask_token : (s.unmask).token = s.token := rfl
@[simp] theorem State.unmask_tracking : (s.unmask).tracking = s.tracking := rfl
@[simp] theorem State.unmask_decA : (s.unmask).decA = s.decA := rfl
@[simp] theorem State.unmask_decB : (s.unmask).decB = s.decB := rfl
@[simp] theorem State.unmask_timer : (s.unmask).timer = { s.timer with timerMasked := false } := rfl
@[simp] theorem State.unmask_out : (s.unmask).out = s.out := rfl

/-! ### enterMenu -/
@[simp] theorem State.enterMenu_fixed : (s.enterMenu).fixed = s.fixed := rfl
@[simp] theorem State.enterMenu_store : (s.enterMenu).store = s.store := rfl
@[simp] theorem State.enterMenu_stimulus : (s.enterMenu).stimulus = s.stimulus := rfl
@[simp] theorem State.enterMenu_drawCount : (s.enterMenu).drawCount = s.drawCount := rfl
@[simp] theorem State.enterMenu_mode : (s.enterMenu).mode = .menu := rfl
@[simp] theorem State.enterMenu_latched : (s.enterMenu).latched = s.latched := rfl
@[simp] theorem State.enterMenu_camera : (s.enterMenu).camera = s.camera := rfl
@[simp] theorem State.enterMenu_token : (s.enterMenu).token = s.token := rfl
@[simp] theorem State.enterMenu_tracking : (s.enterMenu).tracking = s.tracking := rfl
@[simp] theorem State.enterMenu_decA : (s.enterMenu).decA = s.decA := rfl
@[simp] theorem State.enterMenu_decB : (s.enterMenu).decB = s.decB := rfl
@[simp] theorem State.enterMenu_timer : (s.enterMenu).timer = { s.timer with tickPending := false } := rfl
@[simp] theorem State.enterMenu_out : (s.enterMenu).out = s.out := rfl

/-! ### launch -/
@[simp] theorem State.launch_fixed (r : Record) : (s.launch r).fixed = s.fixed := rfl
@[simp] theorem State.launch_store (r : Record) : (s.launch r).store = s.store := rfl
@[simp] theorem State.launch_stimulus (r : Record) : (s.launch r).stimulus = s.stimulus := rfl
@[simp] theorem State.launch_drawCount (r : Record) : (s.launch r).drawCount = s.drawCount := rfl
@[simp] theorem State.launch_mode (r : Record) : (s.launch r).mode = .run := rfl
@[simp] theorem State.launch_latched (r : Record) :
    (s.launch r).latched =
      { maxCamera := BitVec.ofNat 3 r.maxCamera, scanPeriodMultiplier := Fin.ofNat 6 r.scanPeriodMultiplier, houseCode := r.houseCode, idleMode := r.idleMode } := rfl
@[simp] theorem State.launch_camera (r : Record) : (s.launch r).camera = initialCamera r := rfl
@[simp] theorem State.launch_token (r : Record) : (s.launch r).token = { s.token with dupValid := false } := rfl
@[simp] theorem State.launch_tracking (r : Record) :
    (s.launch r).tracking =
      { lastHouse := none, lastUnit := none } := rfl
@[simp] theorem State.launch_decA (r : Record) :
    (s.launch r).decA =
      { s.decA with aState := .idle, aLen := 0, aIdx := 0, aDiscardRem := 0 } := rfl
@[simp] theorem State.launch_decB (r : Record) : (s.launch r).decB = { s.decB with bIdx := .i0 } := rfl
@[simp] theorem State.launch_timer (r : Record) :
    (s.launch r).timer =
      { prescaleCounter := 0, resyncCounter := 0, wantResync := false, tickPending := false, timerMasked := false } := rfl
@[simp] theorem State.launch_out (r : Record) :
    (s.launch r).out =
      { s.out with muxSlot := (initialCamera r).currentCamera, odTrace := s.out.odTrace ++ [(initialCamera r).currentCamera] } := rfl

/-! ### powerLoss -/
@[simp] theorem State.powerLoss_fixed : (s.powerLoss).fixed = s.fixed := rfl
@[simp] theorem State.powerLoss_store : (s.powerLoss).store = s.store := rfl
@[simp] theorem State.powerLoss_stimulus : (s.powerLoss).stimulus = s.stimulus := rfl
@[simp] theorem State.powerLoss_drawCount : (s.powerLoss).drawCount = s.drawCount := rfl
@[simp] theorem State.powerLoss_mode : (s.powerLoss).mode = s.mode := rfl
@[simp] theorem State.powerLoss_latched : (s.powerLoss).latched = s.latched := rfl
@[simp] theorem State.powerLoss_camera : (s.powerLoss).camera = s.camera := rfl
@[simp] theorem State.powerLoss_token : (s.powerLoss).token = State.reset.token := rfl
@[simp] theorem State.powerLoss_tracking : (s.powerLoss).tracking = s.tracking := rfl
@[simp] theorem State.powerLoss_decA : (s.powerLoss).decA = State.reset.decA := rfl
@[simp] theorem State.powerLoss_decB : (s.powerLoss).decB = State.reset.decB := rfl
@[simp] theorem State.powerLoss_timer : (s.powerLoss).timer = s.timer := rfl
@[simp] theorem State.powerLoss_out :
    (s.powerLoss).out =
      { muxSlot := 0, txTrace := [], odTrace := [], reportTrace := [], silentTrace := [] } := rfl

end

end Sys2Proof.Machine
end

