-- ==== Sys2Proof/Laws/Ops.lean ====
section
/-! SUPPORT. For each shared operation, one lemma that says all it can do. -/

namespace Sys2Proof.Machine

/-- What an operation of the interpreter or the timer may write when it acts on the camera: the shared camera
state and the Output Driver, whose calls are only added and whose slot is that of the last call added. -/
def CameraFrame (s t : State) : Prop :=
  ∃ calls : List Slot, t = { s with camera := t.camera,
                                    out := { s.out with muxSlot := calls.getLast?.getD s.out.muxSlot,
                                                        odTrace := s.out.odTrace ++ calls } }

/-- The last of two lists of calls, one after the other. -/
theorem lastCall_append (a b : List Slot) (d : Slot) :
    (a ++ b).getLast?.getD d = b.getLast?.getD (a.getLast?.getD d) := by
  rw [List.getLast?_append]
  cases b.getLast? <;> simp

theorem CameraFrame.refl (s : State) : CameraFrame s s := ⟨[], by simp⟩

theorem CameraFrame.trans {s t u : State} (h : CameraFrame s t) (k : CameraFrame t u) : CameraFrame s u := by
  obtain ⟨a, ha⟩ := h
  obtain ⟨b, hb⟩ := k
  refine ⟨a ++ b, ?_⟩
  rw [hb, ha, lastCall_append]
  simp

/-- `Select(c)`: either `c` is the camera selected already, and only scanning ends, or the camera changes and the
Output Driver is called once (42_interpreter.md R84). -/
theorem State.select_cases (c : Slot) (s : State) :
    (c = s.camera.currentCamera ∧ s.select c = { s with camera := { s.camera with scanActive := false } }) ∨
    (c ≠ s.camera.currentCamera ∧
      s.select c = { s with camera := { s.camera with scanActive := false, currentCamera := c },
                            out := { s.out with muxSlot := c, odTrace := s.out.odTrace ++ [c] } }) := by
  by_cases h : c = s.camera.currentCamera
  · exact .inl ⟨h, by simp [State.select, Camera.select, h]⟩
  · exact .inr ⟨h, by simp [State.select, Camera.select, h, State.outputDriver]⟩

/-- The camera state after `Select(c)`, whichever camera was selected. -/
theorem State.select_camera (c : Slot) (s : State) :
    (s.select c).camera = { s.camera with scanActive := false, currentCamera := c } := by
  rcases s.select_cases c with ⟨h, e⟩ | ⟨-, e⟩ <;> rw [e]
  simp [h]

/-- The Output Driver's side of `Select(c)`. -/
theorem State.select_out (c : Slot) (s : State) :
    (s.select c).out = if c = s.camera.currentCamera then s.out
      else { s.out with muxSlot := c, odTrace := s.out.odTrace ++ [c] } := by
  rcases s.select_cases c with ⟨h, e⟩ | ⟨h, e⟩ <;> rw [e]
  · rw [if_pos h]
  · rw [if_neg h]

theorem State.select_frame (c : Slot) (s : State) : CameraFrame s (s.select c) := by
  rcases s.select_cases c with ⟨-, e⟩ | ⟨-, e⟩ <;> rw [e]
  · exact ⟨[], by simp⟩
  · exact ⟨[c], by simp⟩

/-- `EnableScan()`: nothing when scanning is on, else scanning starts with the counter at 0
(42_interpreter.md R85). -/
theorem State.enableScan_cases (s : State) :
    (s.camera.scanActive = true ∧ s.enableScan = s) ∨
    (s.camera.scanActive = false ∧
      s.enableScan = { s with camera := { s.camera with scanActive := true, scanCycleCounter := 0 } }) := by
  cases h : s.camera.scanActive
  · exact .inr ⟨rfl, by simp [State.enableScan, Camera.enableScan, h]⟩
  · exact .inl ⟨rfl, by simp [State.enableScan, Camera.enableScan, h]⟩

theorem State.enableScan_frame (s : State) : CameraFrame s s.enableScan := ⟨[], by simp [State.enableScan]⟩

/-- `ApplyIdlePolicy()` by policy (42_interpreter.md R86). -/
theorem State.applyIdlePolicy_cases (s : State) :
    (s.latched.idleMode = .scan ∧ s.applyIdlePolicy = s.enableScan) ∨
    (s.latched.idleMode = .priorityCamera ∧ s.applyIdlePolicy = s.select 1) ∨
    (s.latched.idleMode = .none ∧ s.applyIdlePolicy = s) := by
  unfold State.applyIdlePolicy
  cases s.latched.idleMode <;> simp

theorem State.applyIdlePolicy_frame (s : State) : CameraFrame s s.applyIdlePolicy := by
  rcases s.applyIdlePolicy_cases with ⟨-, e⟩ | ⟨-, e⟩ | ⟨-, e⟩ <;> rw [e]
  · exact s.enableScan_frame
  · exact s.select_frame 1
  · exact .refl s

/-- What a command writes: the shared camera state and the Output Driver (42_interpreter.md R77). -/
theorem State.perform_frame (c : Command) (s : State) : CameraFrame s (s.perform c) := by
  cases c with
  | camOff n =>
    simp only [State.perform]
    split
    · exact s.applyIdlePolicy_frame
    · exact .refl s
  | scanOn => exact s.enableScan_frame
  | _ => exact s.select_frame _

theorem State.qualify_frame (s : State) : CameraFrame s s.qualify := ⟨[], by simp [State.qualify]⟩

theorem State.command_frame (c : Command) (s : State) : CameraFrame s (s.command c) :=
  s.qualify_frame.trans (s.qualify.perform_frame c)

/-- `Action(u, op)`: no row and only the condition is noted, or the row's command is carried out
(42_interpreter.md R77, R89). -/
theorem State.action_cases (u : Option UnitNo) (op : Op) (s : State) :
    ((∀ v, u = some v → actionRow s.latched.maxCamera v op = none) ∧ s.action u op = s.note .noRow) ∨
    (∃ v c, u = some v ∧ actionRow s.latched.maxCamera v op = some c ∧ s.action u op = s.command c) := by
  cases u with
  | none => exact .inl ⟨by simp, rfl⟩
  | some v =>
    cases h : actionRow s.latched.maxCamera v op with
    | none => exact .inl ⟨by rintro _ ⟨⟩; exact h, by simp [State.action, h]⟩
    | some c => exact .inr ⟨v, c, rfl, h, by simp [State.action, h]⟩

/-- The house filter: the event, or only the condition noted (42_interpreter.md R72). -/
theorem State.houseFilter_cases (l : House) (event : State → State) (s : State) :
    (l = s.latched.houseCode ∧ s.houseFilter l event = event s) ∨
    (l ≠ s.latched.houseCode ∧ s.houseFilter l event = s.note .foreign) := by
  by_cases h : l = s.latched.houseCode
  · exact .inl ⟨h, by simp [State.houseFilter, h]⟩
  · exact .inr ⟨h, by simp [State.houseFilter, h]⟩

/-- `FunctionEvent`: On and Off act on `last_unit`, the other codes only note the condition
(42_interpreter.md R74, R75). -/
theorem State.functionEvent_cases (f : FuncName) (s : State) :
    (f = .on ∧ s.functionEvent f = s.action s.tracking.lastUnit .on) ∨
    (f = .off ∧ s.functionEvent f = s.action s.tracking.lastUnit .off) ∨
    (f ≠ .on ∧ f ≠ .off ∧ s.functionEvent f = s.note .noRow) := by
  cases f <;> simp [State.functionEvent]

/-- `EventB`: a duplicate only notes the condition; else the token is held and the entry, if there is one, acts
(42_interpreter.md R76). -/
theorem State.eventRow_cases (raw : Byte) (row : Option (Fin 6 × Op)) (s : State) :
    (s.token.suppresses raw = true ∧ s.eventRow raw row = s.note .duplicate) ∨
    (s.token.suppresses raw = false ∧ row = none ∧
      s.eventRow raw row = ({ s with token := Token.hold raw } : State).note .noRow) ∨
    (s.token.suppresses raw = false ∧ ∃ k op, row = some (k, op) ∧
      s.eventRow raw row = ({ s with token := Token.hold raw } : State).action (some (unitOfIndex k)) op) := by
  cases h : s.token.suppresses raw
  · refine .inr ?_
    rcases row with _ | ⟨k, op⟩
    · exact .inl ⟨rfl, rfl, by simp [State.eventRow, h]⟩
    · exact .inr ⟨rfl, k, op, rfl, by simp [State.eventRow, h]⟩
  · exact .inl ⟨rfl, by simp [State.eventRow, h]⟩

/-- What an event of the interpreter may write: the shared camera state, the token, the tracking registers and the
outputs; nothing is transmitted and nothing reported, Output Driver calls and conditions are only added, and
`mux_slot` is the slot of the last call added. -/
def EventFrame (s t : State) : Prop :=
  ∃ (calls : List Slot) (conds : List Condition),
    t = { s with camera := t.camera, token := t.token, tracking := t.tracking,
                 out := { s.out with muxSlot := calls.getLast?.getD s.out.muxSlot,
                                     odTrace := s.out.odTrace ++ calls,
                                     silentTrace := s.out.silentTrace ++ conds } }

theorem EventFrame.refl (s : State) : EventFrame s s := ⟨[], [], by simp⟩

theorem EventFrame.trans {s t u : State} (h : EventFrame s t) (k : EventFrame t u) : EventFrame s u := by
  obtain ⟨a, c, ha⟩ := h
  obtain ⟨b, d, hb⟩ := k
  refine ⟨a ++ b, c ++ d, ?_⟩
  rw [hb, ha, lastCall_append]
  simp

theorem CameraFrame.event {s t : State} (h : CameraFrame s t) : EventFrame s t := by
  obtain ⟨a, ha⟩ := h
  refine ⟨a, [], ?_⟩
  rw [ha]
  simp

theorem State.note_frame (c : Condition) (s : State) : EventFrame s (s.note c) := ⟨[], [c], by simp [State.note]⟩

theorem State.action_frame (u : Option UnitNo) (op : Op) (s : State) : EventFrame s (s.action u op) := by
  rcases s.action_cases u op with ⟨-, e⟩ | ⟨v, c, -, -, e⟩ <;> rw [e]
  · exact s.note_frame _
  · exact (s.command_frame c).event

theorem State.functionEvent_frame (f : FuncName) (s : State) : EventFrame s (s.functionEvent f) := by
  rcases s.functionEvent_cases f with ⟨-, e⟩ | ⟨-, e⟩ | ⟨-, -, e⟩ <;> rw [e]
  · exact s.action_frame _ _
  · exact s.action_frame _ _
  · exact s.note_frame _

theorem State.addressA_frame (h d : Nibble) (s : State) : EventFrame s (s.addressA h d) := by
  unfold State.addressA
  rcases s.houseFilter_cases (s.fixed.params.letterA h) (State.addressEvent (s.fixed.params.letterA h) d) with
    ⟨-, e⟩ | ⟨-, e⟩ <;> rw [e]
  · exact ⟨[], [], by simp [State.addressEvent]⟩
  · exact s.note_frame _

theorem State.functionA_frame (h : Nibble) (f : FuncName) (s : State) : EventFrame s (s.functionA h f) := by
  unfold State.functionA
  rcases s.houseFilter_cases (s.fixed.params.letterA h) (State.functionEvent f) with ⟨-, e⟩ | ⟨-, e⟩ <;> rw [e]
  · exact s.functionEvent_frame f
  · exact s.note_frame _

/-- One decoded event of variant A (42_interpreter.md R72 to R75). -/
theorem State.interpA_frame (kind : Kind) (p : Byte) (s : State) : EventFrame s (s.interpA kind p) := by
  cases kind
  · exact s.addressA_frame _ _
  · exact s.functionA_frame _ _

/-- All the events of a frame (40_decoder_a.md R59). -/
theorem State.interpAll_frame (es : List (Kind × Byte)) (s : State) : EventFrame s (s.interpAll es) := by
  induction es generalizing s with
  | nil => exact .refl s
  | cons e es ih => exact (s.interpA_frame e.1 e.2).trans (ih _)

theorem State.eventRow_frame (raw : Byte) (row : Option (Fin 6 × Op)) (s : State) :
    EventFrame s (s.eventRow raw row) := by
  have hold : EventFrame s { s with token := Token.hold raw } := ⟨[], [], by simp⟩
  rcases s.eventRow_cases raw row with ⟨-, e⟩ | ⟨-, -, e⟩ | ⟨-, k, op, -, e⟩ <;> rw [e]
  · exact s.note_frame _
  · exact hold.trans (State.note_frame _ _)
  · exact hold.trans (State.action_frame _ _ _)

/-- One decoded event of variant B (42_interpreter.md R72, R76). -/
theorem State.interpB_frame (l : House) (raw : Byte) (s : State) : EventFrame s (s.interpB l raw) := by
  unfold State.interpB
  rcases s.houseFilter_cases l (State.eventB raw) with ⟨-, e⟩ | ⟨-, e⟩ <;> rw [e]
  · exact s.eventRow_frame _ _
  · exact s.note_frame _

theorem State.emitB_frame (h u : Byte) (s : State) : EventFrame s (s.emitB h u) := s.interpB_frame _ _

/-- `A.COLLECT`: no such byte, a byte inside the frame, or the frame's last byte (40_decoder_a.md R58, R59). -/
theorem State.collect_cases (b : Byte) (s : State) :
    (¬ s.decA.aIdx.toNat < Config.bufferBytes ∧ s.collect b = .fault .frameIndexOutOfRange) ∨
    (s.decA.aIdx.toNat < Config.bufferBytes ∧ s.decA.aIdx + 1 ≠ s.decA.aLen ∧
      s.collect b = .next (s.storeByte b)) ∨
    (s.decA.aIdx.toNat < Config.bufferBytes ∧ s.decA.aIdx + 1 = s.decA.aLen ∧
      s.collect b = .next (s.storeByte b).frameDone) := by
  by_cases h : s.decA.aIdx.toNat < Config.bufferBytes
  · by_cases h' : s.decA.aIdx + 1 = s.decA.aLen
    · refine .inr (.inr ⟨h, h', ?_⟩)
      unfold State.collect
      rw [if_pos h, if_pos h']
    · refine .inr (.inl ⟨h, h', ?_⟩)
      unfold State.collect
      rw [if_pos h, if_neg h']
  · exact .inl ⟨h, by simp [State.collect, h]⟩

/-- `ScanTick()`: the count goes on, or the camera advances (43_timer.md R93). -/
theorem State.scanTick_cases (s : State) :
    ((s.camera.scanCycleCounter + 1).toNat < s.fixed.params.scanTicks s.latched.scanPeriodMultiplier ∧
      s.scanTick = { s with camera := { s.camera with scanCycleCounter := s.camera.scanCycleCounter + 1 } }) ∨
    (s.fixed.params.scanTicks s.latched.scanPeriodMultiplier ≤ (s.camera.scanCycleCounter + 1).toNat ∧
      s.scanTick = State.outputDriver (nextSlot s.latched.maxCamera s.camera.currentCamera)
        { s with camera := { s.camera with
            currentCamera := nextSlot s.latched.maxCamera s.camera.currentCamera, scanCycleCounter := 0 } }) := by
  by_cases h : s.fixed.params.scanTicks s.latched.scanPeriodMultiplier ≤ (s.camera.scanCycleCounter + 1).toNat
  · exact .inr ⟨h, by simp only [State.scanTick]; rw [if_pos h]⟩
  · exact .inl ⟨by omega, by simp only [State.scanTick]; rw [if_neg h]⟩

/-- `IdleTick()`: the count goes on, or the idle policy is applied and the count is cleared (43_timer.md R94). -/
theorem State.idleTick_cases (s : State) :
    ((s.camera.inactivityCounter + 1).toNat ≤ s.fixed.params.inactivityThreshold ∧
      s.idleTick = s.setInactivity (s.camera.inactivityCounter + 1)) ∨
    (s.fixed.params.inactivityThreshold < (s.camera.inactivityCounter + 1).toNat ∧
      s.idleTick =
        ((s.setInactivity (s.camera.inactivityCounter + 1)).applyIdlePolicy).setInactivity 0) := by
  by_cases h : s.fixed.params.inactivityThreshold < (s.camera.inactivityCounter + 1).toNat
  · exact .inr ⟨h, by simp only [State.idleTick]; rw [if_pos h]⟩
  · exact .inl ⟨by omega, by simp only [State.idleTick]; rw [if_neg h]⟩

/-- `ResyncTick()`: the count goes on, or the request is raised (43_timer.md R95). -/
theorem State.resyncTick_cases (s : State) :
    ((s.timer.resyncCounter + 1).toNat < s.fixed.params.resyncThreshold ∧
      s.resyncTick = { s with timer := { s.timer with resyncCounter := s.timer.resyncCounter + 1 } }) ∨
    (s.fixed.params.resyncThreshold ≤ (s.timer.resyncCounter + 1).toNat ∧
      s.resyncTick = { s with timer := { s.timer with wantResync := true, resyncCounter := 0 } }) := by
  by_cases h : s.fixed.params.resyncThreshold ≤ (s.timer.resyncCounter + 1).toNat
  · exact .inr ⟨h, by simp only [State.resyncTick]; rw [if_pos h]⟩
  · exact .inl ⟨by omega, by simp only [State.resyncTick]; rw [if_neg h]⟩

theorem State.setInactivity_frame (n : Counter) (s : State) : CameraFrame s (s.setInactivity n) :=
  ⟨[], by simp [State.setInactivity]⟩

/-- The part of a slow tick both variants have writes the shared camera state and the Output Driver
(43_timer.md R91, R93, R94). -/
theorem State.scanOrIdleTick_frame (s : State) : CameraFrame s s.scanOrIdleTick := by
  unfold State.scanOrIdleTick
  split
  · rcases s.scanTick_cases with ⟨-, e⟩ | ⟨-, e⟩ <;> rw [e]
    · exact ⟨[], by simp⟩
    · exact ⟨[nextSlot s.latched.maxCamera s.camera.currentCamera], by simp [State.outputDriver]⟩
  · rcases s.idleTick_cases with ⟨-, e⟩ | ⟨-, e⟩ <;> rw [e]
    · exact s.setInactivity_frame _
    · exact ((s.setInactivity_frame _).trans (State.applyIdlePolicy_frame _)).trans
        (State.setInactivity_frame _ _)

/-- The first part of a slow tick: exactly one of the two runs (43_timer.md R91). -/
theorem State.scanOrIdleTick_cases (s : State) :
    (s.camera.scanActive = true ∧ s.scanOrIdleTick = s.scanTick) ∨
    (s.camera.scanActive = false ∧ s.scanOrIdleTick = s.idleTick) := by
  cases h : s.camera.scanActive
  · exact .inr ⟨rfl, by simp [State.scanOrIdleTick, h]⟩
  · exact .inl ⟨rfl, by simp [State.scanOrIdleTick, h]⟩

/-- `TickStep` of variant A: the pending firing is cleared, then the two parts run (43_timer.md R91). -/
theorem State.tickStepA_eq (s : State) (h : s.fixed.variant = .A) :
    s.tickStepA = s.clearPending.scanOrIdleTick.resyncTick := by
  simp [State.tickStepA, State.slowTick, State.clearPending, h]

/-- `TickStep` of variant B: the token is cleared and the prescale counted; at its end the slow tick runs
(43_timer.md R92). -/
theorem State.tickStepB_cases (s : State) (h : s.fixed.variant = .B) :
    ((s.timer.prescaleCounter + 1).toNat ≠ Config.prescale ∧
      s.tickStepB = { s with
        token := { s.token with dupValid := false }
        timer := { s.timer with tickPending := false, prescaleCounter := s.timer.prescaleCounter + 1 } }) ∨
    ((s.timer.prescaleCounter + 1).toNat = Config.prescale ∧
      s.tickStepB = State.scanOrIdleTick { s with
        token := { s.token with dupValid := false }
        timer := { s.timer with tickPending := false, prescaleCounter := 0 } }) := by
  by_cases hn : (s.timer.prescaleCounter + 1).toNat = Config.prescale
  · refine .inr ⟨hn, ?_⟩
    simp only [State.tickStepB]
    rw [if_pos hn]
    simp [State.slowTick, h, State.clearPending, Token.clear]
  · refine .inl ⟨hn, ?_⟩
    simp only [State.tickStepB]
    rw [if_neg hn]
    simp [State.clearPending, Token.clear]

/-- The timer fires: remembered in Run, not in Menu (60_exceptions.md R105). -/
theorem State.timerFires_cases (s : State) :
    (s.mode = .run ∧ s.timerFires = { s with timer := { s.timer with tickPending := true } }) ∨
    (s.mode = .menu ∧ s.timerFires = s) := by
  unfold State.timerFires
  cases s.mode <;> simp

/-- Entry of a step of the main context writes the two bits of 10_state.md R17 only. -/
theorem State.enterMain_eq (fires : Bool) (s : State) :
    s.enterMain fires =
      { s with timer := { s.timer with
          timerMasked := true,
          tickPending := s.timer.tickPending || (fires && s.mode == .run) } } := by
  obtain ⟨fixed, store, stimulus, drawCount, mode, latched, camera, token, tracking, decA, decB, timer, out⟩ := s
  cases fires <;> cases mode <;> simp [State.enterMain, State.mask, State.timerFires]

end Sys2Proof.Machine
end

