-- ==== Sys2Proof/Laws/PerInstr.lean ====
section
/-! SUPPORT. The statements made of every instruction, one lemma per constructor. -/

namespace Sys2Proof

/-- The encoding of an instruction has as many bytes as its format (30_encoding.md R50). -/
def Laws.EncodingLength.Statement (i : Instr) : Prop := ∀ c : Ctx, (encode c i).length = i.format.byteCount

theorem Laws.EncodingLength.aPoll : Laws.EncodingLength.Statement .aPoll := fun _ => rfl
theorem Laws.EncodingLength.aNull : Laws.EncodingLength.Statement .aNull := fun _ => rfl
theorem Laws.EncodingLength.aTimereq : Laws.EncodingLength.Statement .aTimereq := fun _ => rfl
theorem Laws.EncodingLength.aReady : Laws.EncodingLength.Statement .aReady := fun _ => rfl
theorem Laws.EncodingLength.aLen1 : Laws.EncodingLength.Statement .aLen1 := fun _ => rfl
theorem Laws.EncodingLength.aLen2 : Laws.EncodingLength.Statement .aLen2 := fun _ => rfl
theorem Laws.EncodingLength.aLen3 : Laws.EncodingLength.Statement .aLen3 := fun _ => rfl
theorem Laws.EncodingLength.aLen4 : Laws.EncodingLength.Statement .aLen4 := fun _ => rfl
theorem Laws.EncodingLength.aLen5 : Laws.EncodingLength.Statement .aLen5 := fun _ => rfl
theorem Laws.EncodingLength.aLen6 : Laws.EncodingLength.Statement .aLen6 := fun _ => rfl
theorem Laws.EncodingLength.aLen7 : Laws.EncodingLength.Statement .aLen7 := fun _ => rfl
theorem Laws.EncodingLength.aLen8 : Laws.EncodingLength.Statement .aLen8 := fun _ => rfl
theorem Laws.EncodingLength.aLen9 : Laws.EncodingLength.Statement .aLen9 := fun _ => rfl
theorem Laws.EncodingLength.aDesync (b : Byte) : Laws.EncodingLength.Statement (.aDesync b) := fun _ => rfl
theorem Laws.EncodingLength.aCollect (b : Byte) : Laws.EncodingLength.Statement (.aCollect b) := fun _ => rfl
theorem Laws.EncodingLength.aDiscard (b : Byte) : Laws.EncodingLength.Statement (.aDiscard b) := fun _ => rfl
theorem Laws.EncodingLength.aAddress (h d : Nibble) : Laws.EncodingLength.Statement (.aAddress h d) := fun _ => rfl
theorem Laws.EncodingLength.aFuncOn (h : Nibble) : Laws.EncodingLength.Statement (.aFuncOn h) := fun _ => rfl
theorem Laws.EncodingLength.aFuncOff (h : Nibble) : Laws.EncodingLength.Statement (.aFuncOff h) := fun _ => rfl
theorem Laws.EncodingLength.aFuncAllUnitsOff (h : Nibble) : Laws.EncodingLength.Statement (.aFuncAllUnitsOff h) := fun _ => rfl
theorem Laws.EncodingLength.aFuncAllLightsOn (h : Nibble) : Laws.EncodingLength.Statement (.aFuncAllLightsOn h) := fun _ => rfl
theorem Laws.EncodingLength.aFuncDim (h : Nibble) : Laws.EncodingLength.Statement (.aFuncDim h) := fun _ => rfl
theorem Laws.EncodingLength.aFuncBright (h : Nibble) : Laws.EncodingLength.Statement (.aFuncBright h) := fun _ => rfl
theorem Laws.EncodingLength.aFuncAllLightsOff (h : Nibble) : Laws.EncodingLength.Statement (.aFuncAllLightsOff h) := fun _ => rfl
theorem Laws.EncodingLength.aFuncExtCode (h : Nibble) : Laws.EncodingLength.Statement (.aFuncExtCode h) := fun _ => rfl
theorem Laws.EncodingLength.aFuncHailReq (h : Nibble) : Laws.EncodingLength.Statement (.aFuncHailReq h) := fun _ => rfl
theorem Laws.EncodingLength.aFuncHailAck (h : Nibble) : Laws.EncodingLength.Statement (.aFuncHailAck h) := fun _ => rfl
theorem Laws.EncodingLength.aFuncPresetDim1 (h : Nibble) : Laws.EncodingLength.Statement (.aFuncPresetDim1 h) := fun _ => rfl
theorem Laws.EncodingLength.aFuncPresetDim2 (h : Nibble) : Laws.EncodingLength.Statement (.aFuncPresetDim2 h) := fun _ => rfl
theorem Laws.EncodingLength.aFuncExtData (h : Nibble) : Laws.EncodingLength.Statement (.aFuncExtData h) := fun _ => rfl
theorem Laws.EncodingLength.aFuncStatusOn (h : Nibble) : Laws.EncodingLength.Statement (.aFuncStatusOn h) := fun _ => rfl
theorem Laws.EncodingLength.aFuncStatusOff (h : Nibble) : Laws.EncodingLength.Statement (.aFuncStatusOff h) := fun _ => rfl
theorem Laws.EncodingLength.aFuncStatusReq (h : Nibble) : Laws.EncodingLength.Statement (.aFuncStatusReq h) := fun _ => rfl
theorem Laws.EncodingLength.bP1 : Laws.EncodingLength.Statement .bP1 := fun _ => rfl
theorem Laws.EncodingLength.bP1Miss (b : Byte) : Laws.EncodingLength.Statement (.bP1Miss b) := fun _ => rfl
theorem Laws.EncodingLength.bP2 : Laws.EncodingLength.Statement .bP2 := fun _ => rfl
theorem Laws.EncodingLength.bP2Miss (b : Byte) : Laws.EncodingLength.Statement (.bP2Miss b) := fun _ => rfl
theorem Laws.EncodingLength.bH (h x : Nibble) : Laws.EncodingLength.Statement (.bH h x) := fun _ => rfl
theorem Laws.EncodingLength.bU (b : Byte) : Laws.EncodingLength.Statement (.bU b) := fun _ => rfl
theorem Laws.EncodingLength.bP3 : Laws.EncodingLength.Statement .bP3 := fun _ => rfl
theorem Laws.EncodingLength.bP3Miss (b : Byte) : Laws.EncodingLength.Statement (.bP3Miss b) := fun _ => rfl
theorem Laws.EncodingLength.bFrame (h x : Nibble) (u : Byte) : Laws.EncodingLength.Statement (.bFrame h x u) := fun _ => rfl
theorem Laws.EncodingLength.bU1On : Laws.EncodingLength.Statement .bU1On := fun _ => rfl
theorem Laws.EncodingLength.bU1Off : Laws.EncodingLength.Statement .bU1Off := fun _ => rfl
theorem Laws.EncodingLength.bU2On : Laws.EncodingLength.Statement .bU2On := fun _ => rfl
theorem Laws.EncodingLength.bU2Off : Laws.EncodingLength.Statement .bU2Off := fun _ => rfl
theorem Laws.EncodingLength.bU3On : Laws.EncodingLength.Statement .bU3On := fun _ => rfl
theorem Laws.EncodingLength.bU3Off : Laws.EncodingLength.Statement .bU3Off := fun _ => rfl
theorem Laws.EncodingLength.bU4On : Laws.EncodingLength.Statement .bU4On := fun _ => rfl
theorem Laws.EncodingLength.bU4Off : Laws.EncodingLength.Statement .bU4Off := fun _ => rfl
theorem Laws.EncodingLength.bU5On : Laws.EncodingLength.Statement .bU5On := fun _ => rfl
theorem Laws.EncodingLength.bU5Off : Laws.EncodingLength.Statement .bU5Off := fun _ => rfl
theorem Laws.EncodingLength.bU6On : Laws.EncodingLength.Statement .bU6On := fun _ => rfl
theorem Laws.EncodingLength.bU6Off : Laws.EncodingLength.Statement .bU6Off := fun _ => rfl
theorem Laws.EncodingLength.bUOther (b : Byte) : Laws.EncodingLength.Statement (.bUOther b) := fun _ => rfl
theorem Laws.EncodingLength.camOn1 : Laws.EncodingLength.Statement .camOn1 := fun _ => rfl
theorem Laws.EncodingLength.camOn2 : Laws.EncodingLength.Statement .camOn2 := fun _ => rfl
theorem Laws.EncodingLength.camOn3 : Laws.EncodingLength.Statement .camOn3 := fun _ => rfl
theorem Laws.EncodingLength.camOn4 : Laws.EncodingLength.Statement .camOn4 := fun _ => rfl
theorem Laws.EncodingLength.scanOn : Laws.EncodingLength.Statement .scanOn := fun _ => rfl
theorem Laws.EncodingLength.stepPrev : Laws.EncodingLength.Statement .stepPrev := fun _ => rfl
theorem Laws.EncodingLength.camOff1 : Laws.EncodingLength.Statement .camOff1 := fun _ => rfl
theorem Laws.EncodingLength.camOff2 : Laws.EncodingLength.Statement .camOff2 := fun _ => rfl
theorem Laws.EncodingLength.camOff3 : Laws.EncodingLength.Statement .camOff3 := fun _ => rfl
theorem Laws.EncodingLength.camOff4 : Laws.EncodingLength.Statement .camOff4 := fun _ => rfl
theorem Laws.EncodingLength.allOff : Laws.EncodingLength.Statement .allOff := fun _ => rfl
theorem Laws.EncodingLength.stepNext : Laws.EncodingLength.Statement .stepNext := fun _ => rfl
theorem Laws.EncodingLength.noRow (o : Op) (u : Nibble) : Laws.EncodingLength.Statement (.noRow o u) := fun _ => rfl
theorem Laws.EncodingLength.tickA : Laws.EncodingLength.Statement .tickA := fun _ => rfl
theorem Laws.EncodingLength.tickB : Laws.EncodingLength.Statement .tickB := fun _ => rfl
theorem Laws.EncodingLength.resync : Laws.EncodingLength.Statement .resync := fun _ => rfl
theorem Laws.EncodingLength.reset (r : Record) : Laws.EncodingLength.Statement (.reset r) := fun _ => rfl
theorem Laws.EncodingLength.resume (r : Record) : Laws.EncodingLength.Statement (.resume r) := fun _ => rfl

end Sys2Proof
end

