-- ==== Sys2Proof/Tests/Slice0.lean ====
section
/-! SUPPORT. Tests: words written out from 30_encoding.md, ill-formed terms, single steps from 95_test_vectors.md
(the vector's name stands in each comment), and for every statement with hypotheses a concrete case of them. -/

namespace Sys2Proof.Tests

open Sys2Proof.Machine

/-! ## Helpers -/

/-- What a format's bytes are read as, with the default tables and `max_camera` 4. -/
def decoded (f : Format) (bytes : List Byte) : Option Instr :=
  match decode tableCtx f bytes with
  | .ok (i, []) => some i
  | _ => none

/-- The next state, if there is one. -/
def after : Result → Option State
  | .next t => some t
  | _ => none

/-- The reason of a refusal, if there is one. -/
def refusal : Result → Option Refusal
  | .refused r => some r
  | _ => none

/-- The start of section 2.3: `inactivity_counter` 7, `scan_cycle_counter` 3, nothing transmitted or called. -/
def start (v : Variant) (max : Slot) (idle : IdleMode) (cam : Slot) (scan : Bool) : State :=
  { State.reset with
    fixed := { variant := v, params := defaultParams }
    latched := { State.reset.latched with maxCamera := max, idleMode := idle }
    camera := { currentCamera := cam, scanActive := scan, scanCycleCounter := 3, inactivityCounter := 7 }
    out := { State.reset.out with muxSlot := cam, odTrace := [] } }

/-- Variant A, or B, at a frame boundary, house A, camera 2 of 4. -/
def stateA : State := start .A 4 .none 2 false
def stateB : State := start .B 4 .none 2 false

/-- The camera, `scan_active`, `inactivity_counter`, `scan_cycle_counter` and the Output Driver's calls. -/
def view (r : Result) : Option (Slot × Bool × Counter × Counter × List Slot) :=
  (after r).map fun t =>
    (t.camera.currentCamera, t.camera.scanActive, t.camera.inactivityCounter, t.camera.scanCycleCounter,
      t.out.odTrace)

/-- What is transmitted. -/
def sent (r : Result) : Option (List Byte) := (after r).map fun t => t.out.txTrace

/-! ## Words of every row, bit by bit -/

/-- 30_encoding.md R35. -/
theorem test_decode_first :
    ∀ r ∈ ([(0b01011010, .aPoll), (0b00000000, .aNull), (0b10100101, .aTimereq), (0b01010101, .aReady),
      (0b00000001, .aLen1), (0b00000010, .aLen2), (0b00000011, .aLen3), (0b00000100, .aLen4),
      (0b00000101, .aLen5), (0b00000110, .aLen6), (0b00000111, .aLen7), (0b00001000, .aLen8),
      (0b00001001, .aLen9), (0b00001010, .aDesync 0x0A), (0b11111111, .aDesync 0xFF), (0b01010100, .aDesync 0x54),
      (0b01011011, .aDesync 0x5B), (0b10100100, .aDesync 0xA4)] : List (Byte × Instr)),
      decoded .aFirst [r.1] = some r.2 := by decide

/-- 40_decoder_a.md R58, R60, R61: inside a frame or a window every value is data. -/
theorem test_decode_data :
    decoded .aDataCollect [0b01011010] = some (.aCollect 0x5A) ∧
    decoded .aDataDiscard [0b11111111] = some (.aDiscard 0xFF) := by decide

/-- 30_encoding.md R38 to R42: the payload byte, then its mask bit. House nibble 6 is house A; Address nibble E is
unit 2. -/
theorem test_decode_payload :
    decoded .aPayload [0b01101110, 0b0] = some (.aAddress 0x6 0xE) ∧
    ∀ r ∈ ([(0b01100000, .aFuncAllUnitsOff 6), (0b01100001, .aFuncAllLightsOn 6), (0b01100010, .aFuncOn 6),
      (0b01100011, .aFuncOff 6), (0b01100100, .aFuncDim 6), (0b01100101, .aFuncBright 6),
      (0b01100110, .aFuncAllLightsOff 6), (0b01100111, .aFuncExtCode 6), (0b01101000, .aFuncHailReq 6),
      (0b01101001, .aFuncHailAck 6), (0b01101010, .aFuncPresetDim1 6), (0b01101011, .aFuncPresetDim2 6),
      (0b01101100, .aFuncExtData 6), (0b01101101, .aFuncStatusOn 6), (0b01101110, .aFuncStatusOff 6),
      (0b01101111, .aFuncStatusReq 6)] : List (Byte × Instr)), decoded .aPayload [r.1, 0b1] = some r.2 := by decide

/-- 30_encoding.md R43. -/
theorem test_decode_template :
    decoded .bPos0 [0b11010101] = some .bP1 ∧ decoded .bPos0 [0b11010100] = some (.bP1Miss 0xD4) ∧
    decoded .bPos1 [0b10101010] = some .bP2 ∧ decoded .bPos1 [0b10101011] = some (.bP2Miss 0xAB) ∧
    decoded .bPos2 [0b01100100] = some (.bH 0x6 0x4) ∧ decoded .bPos3 [0b01010000] = some (.bU 0x50) ∧
    decoded .bPos4 [0b10101101] = some .bP3 ∧ decoded .bPos4 [0b10101110] = some (.bP3Miss 0xAE) ∧
    decoded .bFrame [0b11010101, 0b10101010, 0b01100100, 0b01010000, 0b10101101] =
      some (.bFrame 0x6 0x4 0x50) := by decide

/-- 30_encoding.md R45. -/
theorem test_decode_unit :
    ∀ r ∈ ([(0b00000000, .bU1On), (0b00100000, .bU1Off), (0b00010000, .bU2On), (0b00110000, .bU2Off),
      (0b00001000, .bU3On), (0b00101000, .bU3Off), (0b00011000, .bU4On), (0b00111000, .bU4Off),
      (0b01000000, .bU5On), (0b01100000, .bU5Off), (0b01010000, .bU6On), (0b01110000, .bU6Off),
      (0b10101010, .bUOther 0xAA)] : List (Byte × Instr)), decoded .bU [r.1] = some r.2 := by decide

/-- 30_encoding.md R50: the operation in bit 4, the unit number minus 1 below it. -/
theorem test_decode_action :
    ∀ r ∈ ([(0b10000, .camOn1), (0b10001, .camOn2), (0b10010, .camOn3), (0b10011, .camOn4), (0b10100, .scanOn),
      (0b10101, .stepPrev), (0b00000, .camOff1), (0b00001, .camOff2), (0b00010, .camOff3), (0b00011, .camOff4),
      (0b00100, .allOff), (0b00101, .stepNext), (0b10110, .noRow .on 6), (0b01111, .noRow .off 15)] :
      List (Byte × Instr)), decoded .action [r.1] = some r.2 := by decide

/-- A unit above `max_camera` is NOROW (30_encoding.md R50). -/
theorem test_decode_action_above_max :
    decodeAction 3 .on 3 = .noRow .on 3 ∧ decodeAction 2 .off 2 = .noRow .off 2 := by decide

/-- Bytes no row stands for are refused by name. -/
theorem test_decode_refuses :
    decoded .aFirst [] = none ∧ decoded .aPayload [0x62, 0b10] = none ∧ decoded .action [0b100000] = none ∧
    decoded .bFrame [0xD5, 0xAA, 0x60, 0x00, 0xAE] = none ∧ decoded .event [] = none := by decide

/-- The words of the table without a state: the bits as the table numbers them. -/
theorem test_table_words :
    decodeTableWord 8 0x5A = some .aPoll ∧ decodeTableWord 8 0xD5 = some .bP1 ∧
    decodeTableWord 8 0x10 = some .bU2On ∧ decodeTableWord 8 0x15 = some .stepPrev ∧
    decodeTableWord 16 0x066 = some (.aAddress 6 6) ∧ decodeTableWord 16 0x162 = some (.aFuncOn 6) ∧
    decodeTableWord 40 0xD5AA6000AD = some (.bFrame 6 0 0) ∧ decodeTableWord 0 0 = some .tickA := by decide

/-! ## Ill-formed terms -/

theorem test_illformed_first :
    ∀ b ∈ ([0x5A, 0x00, 0xA5, 0x55, 0x01, 0x09] : List Byte), ¬ (Instr.aDesync b).WellFormed tableCtx := by decide

theorem test_illformed_template :
    ¬ (Instr.bP1Miss 0xD5).WellFormed tableCtx ∧ ¬ (Instr.bP2Miss 0xAA).WellFormed tableCtx ∧
    ¬ (Instr.bP3Miss 0xAD).WellFormed tableCtx := by decide

theorem test_illformed_unit : ¬ (Instr.bUOther 0x70).WellFormed tableCtx := by decide

/-- 42_interpreter.md R89: no row above `max_camera`. -/
theorem test_illformed_camera :
    ¬ Instr.camOn1.WellFormed { tableCtx with maxCamera := 0 } ∧
    ¬ Instr.camOff1.WellFormed { tableCtx with maxCamera := 0 } ∧
    ¬ Instr.camOn2.WellFormed { tableCtx with maxCamera := 1 } ∧
    ¬ Instr.camOff2.WellFormed { tableCtx with maxCamera := 1 } ∧
    ¬ Instr.camOn3.WellFormed { tableCtx with maxCamera := 2 } ∧
    ¬ Instr.camOff3.WellFormed { tableCtx with maxCamera := 2 } ∧
    ¬ Instr.camOn4.WellFormed { tableCtx with maxCamera := 3 } ∧
    ¬ Instr.camOff4.WellFormed { tableCtx with maxCamera := 3 } := by decide

/-- Units 1 to 6 have rows. -/
theorem test_illformed_norow :
    ∀ u ∈ ([0, 3, 4, 5] : List Nibble), ¬ (Instr.noRow .on u).WellFormed tableCtx := by decide

/-- VZ6: a camera above `max_camera`, `max_camera` outside 2..4, a multiplier above 5. -/
theorem test_illformed_record :
    ∀ r ∈ ([{ State.resetRecord with selectedCamera := 5 }, { State.resetRecord with maxCamera := 1 },
      { State.resetRecord with maxCamera := 5 }, { State.resetRecord with scanPeriodMultiplier := 6 }] : List Record),
      ¬ (Instr.reset r).WellFormed tableCtx ∧ ¬ (Instr.resume r).WellFormed tableCtx := by decide

/-! ## Variant A, one step each -/

/-- VA1 to VA4. -/
theorem test_poll : sent (exec .aPoll stateA) = some [0xC3] := by decide
theorem test_null : sent (exec .aNull stateA) = some [0x00] := by decide
theorem test_timereq : sent (exec .aTimereq stateA) = some [0x9B, 0, 0, 0, 0, 0, 0] := by decide
theorem test_ready : after (exec .aReady stateA) = some stateA := by decide

/-- VA6, VA8, and R56 for the lengths between. -/
theorem test_length :
    ∀ r ∈ ([(.aLen1, 1), (.aLen2, 2), (.aLen3, 3), (.aLen4, 4), (.aLen5, 5), (.aLen6, 6), (.aLen7, 7), (.aLen8, 8),
      (.aLen9, 9)] : List (Instr × BitVec 4)),
      (after (exec r.1 stateA)).map (fun t => (t.decA.aState, t.decA.aLen, t.decA.aIdx)) =
        some (.collect, r.2, 0) := by decide

/-- VA9: the report, whatever is drawn. -/
theorem test_desync_reports :
    (after (exec (.aDesync 0x0A) stateA)).map (fun t => (t.out.reportTrace, t.out.txTrace)) =
      some ([{ condition := .desync, info := 0x0A }], []) := by decide

/-- A frame of `n` bytes with `i` of them stored, the first being the bitmask `m`. -/
def collecting (n i : BitVec 4) (m : Byte) : State :=
  { stateA with decA := { aState := .collect, aLen := n, aIdx := i, aDiscardRem := 0,
                          aBuf := if m = 0 then [] else [(0, m)] } }

/-- VA16: the bitmask of a frame is stored and not answered. -/
theorem test_collect_first :
    (after (exec (.aCollect 0x00) (collecting 2 0 0))).map (fun t => (t.decA.aState, t.decA.aIdx, t.out.txTrace)) =
      some (.collect, 1, []) := by decide

/-- VA17: the frame's last byte is an Address of house A, unit 2. -/
theorem test_collect_last :
    (after (exec (.aCollect 0x6E) (collecting 2 1 0))).map (fun t => (t.decA.aState, t.tracking, t.decA.aBuf)) =
      some (.idle, { lastHouse := some .A, lastUnit := some 2 }, [(1, 0x6E)]) := by decide

/-- VA24: bitmask bits above the payload are ignored, and byte[1] has bit 0. -/
theorem test_collect_mask :
    ((collecting 2 1 0xF1).storeByte 0x62).frameEvents = [(.function, 0x62)] := by decide

/-- VA25: the eight payload bytes of a frame of 9 with bitmask AA are Address and Function in turn; with
`MASK_BIT_OFFSET` 1 the last reads the bit above 7. -/
theorem test_mask_bits :
    (List.range 8).map (maskKind 0xAA) =
      [.address, .function, .address, .function, .address, .function, .address, .function] ∧
    maskKind 0xAA 8 = .address := by decide

/-- A recovery window with `r` bytes to go. -/
def discarding (r : Counter) : State :=
  { stateA with decA := { stateA.decA with aState := .discard, aDiscardRem := r } }

/-- R60's example. -/
theorem test_discard :
    (after (exec (.aDiscard 0x5A) (discarding 2))).map (fun t => (t.decA.aState, t.decA.aDiscardRem, t.out.txTrace))
      = some (.discard, 1, []) ∧
    (after (exec (.aDiscard 0xFF) (discarding 1))).map (fun t => t.decA.aState) = some .idle := by decide

/-- 42_interpreter.md R73's example, and R72's: an Address of house A, and the same under house M. -/
theorem test_address :
    (after (exec (.aAddress 6 6) stateA)).map (fun t => t.tracking) =
      some { lastHouse := some .A, lastUnit := some 1 } := by decide
theorem test_address_foreign :
    (after (exec (.aAddress 6 6) { stateA with latched := { stateA.latched with houseCode := .M } })).map
      (fun t => (t.tracking, t.out.silentTrace)) = some (stateA.tracking, [.foreign]) := by decide

/-- Unit `u` of house A tracked. -/
def tracking (u : UnitNo) : State := { stateA with tracking := { lastHouse := some .A, lastUnit := some u } }

/-- S1: On for unit 3; VA20: On with no Address seen. -/
theorem test_function_on : view (exec (.aFuncOn 6) (tracking 3)) = some (3, false, 0, 3, [3]) := by decide
theorem test_function_on_untracked : view (exec (.aFuncOn 6) stateA) = some (2, false, 7, 3, []) := by decide

/-- VC30: Off for unit 6 steps on; VC28's unit 7 has no row. -/
theorem test_function_off : view (exec (.aFuncOff 6) (tracking 6)) = some (3, false, 0, 3, [3]) := by decide
theorem test_function_off_unit7 : view (exec (.aFuncOff 6) (tracking 7)) = some (2, false, 7, 3, []) := by decide

/-- VA26 and R75: the fourteen other codes change nothing, All Units Off included. -/
theorem test_function_other :
    ∀ i ∈ [Instr.aFuncAllUnitsOff 6, .aFuncAllLightsOn 6, .aFuncDim 6, .aFuncBright 6, .aFuncAllLightsOff 6,
      .aFuncExtCode 6, .aFuncHailReq 6, .aFuncHailAck 6, .aFuncPresetDim1 6, .aFuncPresetDim2 6, .aFuncExtData 6,
      .aFuncStatusOn 6, .aFuncStatusOff 6, .aFuncStatusReq 6],
      view (exec i (tracking 3)) = some (2, false, 7, 3, []) := by decide

/-! ## Variant B, one step each -/

/-- VB1, VB2. -/
theorem test_p1 : (after (exec .bP1 stateB)).map (fun t => t.decB.bIdx) = some .i1 := by decide
theorem test_p1_miss : (after (exec (.bP1Miss 0x00) stateB)).map (fun t => t.decB.bIdx) = some .i0 := by decide

/-- The template accumulated up to a position, with `H` = 60 and `U` = `u`. -/
def accumulated (k : BIdx) (u : Byte) : State := { stateB with decB := { bIdx := k, bH := 0x60, bU := u } }

/-- VB3; VB11: the second D5 is consumed by the mismatch. -/
theorem test_p2 : (after (exec .bP2 (accumulated .i1 0))).map (fun t => t.decB.bIdx) = some .i2 := by decide
theorem test_p2_miss :
    (after (exec (.bP2Miss 0xD5) (accumulated .i1 0))).map (fun t => t.decB.bIdx) = some .i0 := by decide

/-- VB5; VB15: a marker value is accepted as `H`. -/
theorem test_h :
    (after (exec (.bH 0xD 0x5) (accumulated .i2 0))).map (fun t => t.decB) =
      some { bIdx := .i3, bH := 0xD5, bU := 0 } := by decide
theorem test_u :
    (after (exec (.bU 0x50) (accumulated .i3 0))).map (fun t => t.decB) =
      some { bIdx := .i4, bH := 0x60, bU := 0x50 } := by decide

/-- VB6, VB7. -/
theorem test_p3 :
    (after (exec .bP3 (accumulated .i4 0x00))).map (fun t => (t.decB.bIdx, t.token, t.out.odTrace)) =
      some (.i0, { dupValid := true, dupValue := 0x00 }, [1]) := by decide
theorem test_p3_miss :
    (after (exec (.bP3Miss 0xAE) (accumulated .i4 0x00))).map (fun t => (t.decB.bIdx, t.token, t.out.odTrace)) =
      some (.i0, stateB.token, []) := by decide

/-- VB13, VB14: the low nibble of `H` is ignored; house nibble 0 is house M. -/
theorem test_frame : view (exec (.bFrame 6 4 0x00) stateB) = some (1, false, 0, 3, [1]) := by decide
theorem test_frame_foreign :
    (after (exec (.bFrame 0 0 0x00) stateB)).map (fun t => (t.token, t.out.odTrace)) =
      some (stateB.token, []) := by decide

/-- 30_encoding.md R45 with 42_interpreter.md R77: what each `U` byte does from camera 2 of 4 (VB6, P6, VC31). -/
theorem test_units :
    ∀ r ∈ ([(.bU1On, (1, false, 0, 3, [1])), (.bU2On, (2, false, 0, 3, [])), (.bU3On, (3, false, 0, 3, [3])),
      (.bU4On, (4, false, 0, 3, [4])), (.bU5On, (2, true, 0, 0, [])), (.bU6On, (1, false, 0, 3, [1])),
      (.bU1Off, (2, false, 0, 3, [])), (.bU2Off, (2, false, 0, 3, [])), (.bU3Off, (2, false, 0, 3, [])),
      (.bU4Off, (2, false, 0, 3, [])), (.bU5Off, (0, false, 0, 3, [0])), (.bU6Off, (3, false, 0, 3, [3]))] :
      List (Instr × (Slot × Bool × Counter × Counter × List Slot))), view (exec r.1 stateB) = some r.2 := by decide

/-- The token holding a byte. -/
def holding (u : Byte) : State := { stateB with token := { dupValid := true, dupValue := u } }

/-- VX1 (a): a repeat is suppressed. VB17, VC35: a byte without an entry holds the token. -/
theorem test_unit_duplicate : view (exec .bU6Off (holding 0x70)) = some (2, false, 7, 3, []) := by decide
theorem test_unit_other :
    (after (exec (.bUOther 0xAD) (holding 0x00))).map (fun t => (t.token, t.out.odTrace, t.camera)) =
      some ({ dupValid := true, dupValue := 0xAD }, [], stateB.camera) := by decide

/-! ## Commands (section 2.3) -/

/-- VC1, VC3. -/
theorem test_camOn3 : view (exec .camOn3 (start .A 4 .none 1 true)) = some (3, false, 0, 3, [3]) := by decide
theorem test_camOn3_same : view (exec .camOn3 (start .B 4 .none 3 true)) = some (3, false, 0, 3, []) := by decide

/-- VC4, VC5, S2. -/
theorem test_camOn2 : view (exec .camOn2 (start .A 4 .none 0 false)) = some (2, false, 0, 3, [2]) := by decide
theorem test_camOn4_above : view (exec .camOn4 (start .A 3 .none 1 false)) = some (1, false, 7, 3, []) := by decide
theorem test_camOn1 : view (exec .camOn1 (start .B 4 .none 2 false)) = some (1, false, 0, 3, [1]) := by decide

/-- VC7, VC8. -/
theorem test_scanOn : view (exec .scanOn (start .A 4 .none 2 false)) = some (2, true, 0, 0, []) := by decide
theorem test_scanOn_running : view (exec .scanOn (start .A 4 .none 2 true)) = some (2, true, 0, 3, []) := by decide

/-- VC11, VC12. -/
theorem test_stepPrev_from_off : view (exec .stepPrev (start .A 4 .none 0 false)) = some (4, false, 0, 3, [4]) := by
  decide
theorem test_stepPrev_scanning : view (exec .stepPrev (start .A 4 .none 3 true)) = some (2, false, 0, 3, [2]) := by
  decide

/-- VC14, VC15. -/
theorem test_stepNext_from_off : view (exec .stepNext (start .A 4 .none 0 false)) = some (1, false, 0, 3, [1]) := by
  decide
theorem test_stepNext_wraps : view (exec .stepNext (start .A 2 .none 2 false)) = some (1, false, 0, 3, [1]) := by
  decide

/-- VC22, VC23. -/
theorem test_camOff3_priority :
    view (exec .camOff3 (start .A 4 .priorityCamera 3 true)) = some (1, false, 0, 3, [1]) := by decide
theorem test_camOff3_scan : view (exec .camOff3 (start .A 4 .scan 3 true)) = some (3, true, 0, 3, []) := by decide

/-- VC18, VC21, VC24. -/
theorem test_camOff2_other :
    view (exec .camOff2 (start .A 4 .priorityCamera 3 false)) = some (3, false, 0, 3, []) := by decide
theorem test_camOff1_priority :
    view (exec .camOff1 (start .A 4 .priorityCamera 1 false)) = some (1, false, 0, 3, []) := by decide
theorem test_camOff4_above : view (exec .camOff4 (start .A 3 .none 2 false)) = some (2, false, 7, 3, []) := by decide

/-- VC25, VC26, VC28. -/
theorem test_allOff : view (exec .allOff (start .A 4 .none 2 true)) = some (0, false, 0, 3, [0]) := by decide
theorem test_allOff_again : view (exec .allOff (start .A 4 .none 0 false)) = some (0, false, 0, 3, []) := by decide
theorem test_noRow : view (exec (.noRow .on 6) stateA) = some (2, false, 7, 3, []) := by decide

/-! ## Events -/

/-- VT3: with T = 1 a scan from "all off" goes to camera 1. -/
theorem test_tickA_scan :
    view (exec .tickA { start .A 3 .none 0 true with
      camera := { currentCamera := 0, scanActive := true, scanCycleCounter := 0, inactivityCounter := 5 } }) =
      some (1, true, 5, 0, [1]) := by decide

/-- VT6: the 13th tick applies the policy. -/
theorem test_tickA_idle :
    view (exec .tickA { start .A 4 .priorityCamera 3 false with
      camera := { currentCamera := 3, scanActive := false, scanCycleCounter := 0, inactivityCounter := 12 } }) =
      some (1, false, 0, 0, [1]) := by decide

/-- VT13: the 60th tick sets the request. -/
theorem test_tickA_resync :
    (after (exec .tickA { stateA with timer := { stateA.timer with resyncCounter := 59 } })).map
      (fun t => (t.timer.wantResync, t.timer.resyncCounter)) = some (true, 0) := by decide

/-- VT17, VT19; VT18. -/
theorem test_tickB_prescale :
    (after (exec .tickB { holding 0x50 with timer := { stateB.timer with prescaleCounter := 3 } })).map
      (fun t => (t.timer.prescaleCounter, t.token.dupValid, t.camera.inactivityCounter)) = some (4, false, 7) := by
  decide
theorem test_tickB_slow :
    (after (exec .tickB { stateB with timer := { stateB.timer with prescaleCounter := 4 } })).map
      (fun t => (t.timer.prescaleCounter, t.camera.inactivityCounter)) = some (0, 8) := by decide

/-- The request raised. -/
def wanting : State := { stateA with timer := { stateA.timer with wantResync := true } }

/-- VT14, VT15. -/
theorem test_resync :
    (after (exec .resync wanting)).map (fun t => (t.timer.wantResync, t.out.txTrace)) = some (false, []) := by decide
theorem test_resync_waits :
    refusal (exec .resync { wanting with decA := (collecting 2 1 0).decA }) = some .notEnabled := by decide

/-- VZ2, VZ3, VZ6. -/
theorem test_reset_priority :
    view (exec (.reset { State.resetRecord with selectedCamera := 3, idleMode := .priorityCamera }) stateA) =
      some (1, false, 0, 0, [1]) := by decide
theorem test_reset_refused :
    refusal (exec (.reset { State.resetRecord with selectedCamera := 5 }) stateA) = some .illegalRecord := by decide

/-- Variant B in Menu. -/
def inMenu : State := { stateB with mode := .menu }

/-- 60_exceptions.md R111: as reset (VZ3), and the traces go on. -/
theorem test_resume :
    view (exec (.resume { State.resetRecord with selectedCamera := 3, idleMode := .scan })
      { inMenu with out := { inMenu.out with odTrace := [2] } }) = some (3, true, 0, 0, [2, 3]) := by decide
theorem test_resume_variant_A :
    refusal (exec (.resume State.resetRecord) { stateA with mode := .menu }) = some .notInThisVariant := by decide

/-! ## Steps -/

/-- VA15: the byte 5A inside a frame is data. -/
theorem test_step_handshake_in_frame :
    sent (step { collecting 2 1 0 with stimulus := [.rx 0x5A false] }) = some [] := by decide

/-- VB18, VX1 (b): a deferred tick runs before the waiting byte. -/
theorem test_step_tick_first :
    (after (step { accumulated .i4 0x70 with
      token := { dupValid := true, dupValue := 0x70 }, stimulus := [.rx 0xAD false],
      timer := { stateB.timer with tickPending := true } })).map
      (fun t => (t.token.dupValid, t.timer.tickPending, t.stimulus)) =
      some (false, false, [.rx 0xAD false]) := by decide

/-- Words placed after reset run as the first instruction: the payload, B-U, B-FRAME and ACTION words inside the
ByteStep that performs them. -/
theorem test_placed_words :
    sent (step (State.reset.withFetchWord 8 0x5A)) = some [0xC3] ∧
    (after (step (State.reset.withFetchWord 16 0x66))).map (fun t => t.tracking.lastUnit) = some (some 1) ∧
    (after (step (State.reset.withFetchWord 16 0x162))).map (fun t => t.out.silentTrace) = some [.noRow] ∧
    (after (step (State.reset.withFetchWord 8 0x50))).map (fun t => t.camera.currentCamera) = some 4 ∧
    (after (step (State.reset.withFetchWord 8 0x15))).map (fun t => t.camera.currentCamera) = some 4 ∧
    (after (step (State.reset.withFetchWord 8 0x12))).map (fun t => t.camera.currentCamera) = some 3 ∧
    (after (step (State.reset.withFetchWord 40 0xD5AA6050AD))).map (fun t => t.camera.currentCamera) = some 4 ∧
    (after (step (State.reset.withFetchWord 0 0))).map (fun t => t.timer.resyncCounter) = some 1 := by decide

/-! ## The hypotheses of the statements are met -/

theorem test_witness_DecodeOfEncode :
    tableCtx.params.TablesLegal ∧
    (∀ i ∈ [Instr.aDesync 0x0A, .aAddress 6 6, .aFuncOn 6, .bP1Miss 0, .bFrame 6 0 0, .bU6Off, .bUOther 0xAA, .camOn4,
      .noRow .off 15], i.WellFormed tableCtx ∧ i.format ≠ .event) := by decide

theorem test_witness_EncodeOfDecode :
    tableCtx.params.TablesLegal ∧ decode tableCtx .aPayload [0x62, 1] = .ok (.aFuncOn 6, []) :=
  ⟨by decide, rfl⟩

theorem test_witness_StepRuns :
    stateB.mode = .run ∧ stateB.tickDue = false ∧
    ({ stateB with stimulus := [.rx 0xD5 true] } : State).stimulus = .rx 0xD5 true :: [] ∧
    decode stateB.ctx stateB.position [0xD5] = .ok (.bP1, []) :=
  ⟨rfl, rfl, rfl, rfl⟩

theorem test_witness_StepRunsTheEvents :
    let p : Timer := { stateA.timer with tickPending := true }
    ({ stateA with timer := p } : State).tickDue = true ∧ ({ stateB with timer := p } : State).tickDue = true ∧
    wanting.tickDue = false ∧ wanting.fixed.variant = .A ∧ wanting.mode = .run ∧ wanting.timer.wantResync = true ∧
    wanting.decA.aState = .idle ∧
    ({ wanting with stimulus := [.receiveLoop true] } : State).stimulus = .receiveLoop true :: [] ∧
    inMenu.tickDue = false ∧ ({ inMenu with stimulus := [.resume] } : State).stimulus = .resume :: [] ∧
    ({ inMenu with stimulus := [.powerUp] } : State).stimulus = .powerUp :: [] := by decide

theorem test_witness_StepsWithout :
    stateA.tickDue = false ∧ stateA.stimulus = [] ∧ stateA.mode = .run ∧ stateA.timer.wantResync = false ∧
    inMenu.tickDue = false ∧ inMenu.mode = .menu ∧ inMenu.fixed.variant = .B ∧ (4 : Slot).toNat ≤ 4 ∧
    (∀ x ∈ [Input.timerFires, .receiveLoop false, .enterMenu, .menuSave State.resetRecord, .menuDrive 4],
      ({ inMenu with stimulus := [x] } : State).stimulus = x :: []) := by decide

theorem test_witness_MenuSuspends :
    inMenu.mode = .menu ∧
    ∀ x ∈ [Input.rx 0xD5 true, .timerFires, .receiveLoop true],
      ({ inMenu with stimulus := [x] } : State).stimulus = x :: [] := by decide

/-- A byte, an enabled ResyncStep, and the receive loop where it is not enabled. -/
theorem test_witness_FiringDuringAStep :
    (∀ s ∈ [({ stateB with stimulus := [.rx 0xD5 true] } : State), { wanting with stimulus := [.receiveLoop true] }],
      s.mode = .run ∧ s.tickDue = false ∧ (after (step s)).isSome = true) ∧
    wanting.fixed.variant = .A ∧ wanting.timer.wantResync = true ∧ wanting.decA.aState = .idle ∧
    stateA.timer.wantResync = false ∧ stateB.fixed.variant = .B := by decide

/-- Acts of the menu in Run, in variant A, and above slot 4. -/
theorem test_witness_OutsideContract :
    stateB.tickDue = false ∧ stateB.mode = .run ∧ inMenu.tickDue = false ∧ stateA.fixed.variant = .A ∧
    4 < (5 : Slot).toNat ∧
    (∀ x ∈ [Input.menuSave State.resetRecord, .menuDrive 5],
      ({ stateB with stimulus := [x] } : State).stimulus = x :: []) ∧
    refusal (step { inMenu with stimulus := [.menuDrive 5] }) = some .outsideContract := by decide

/-- Both variants, for the statements whose only hypothesis is the variant. -/
theorem test_witness_variants : stateA.fixed.variant = .A ∧ stateB.fixed.variant = .B := by decide

theorem test_witness_LengthPrefix :
    (∀ r ∈ [(Instr.aLen1, (1 : BitVec 4)), (.aLen9, 9)], r ∈
      [(Instr.aLen1, (1 : BitVec 4)), (.aLen2, 2), (.aLen3, 3), (.aLen4, 4), (.aLen5, 5),
      (.aLen6, 6), (.aLen7, 7), (.aLen8, 8), (.aLen9, 9)]) ∧ stateA.fixed.variant = .A := by decide

theorem test_witness_Discard :
    ∀ r ∈ ([1, 2, 255] : List Counter), (discarding r).fixed.variant = .A ∧ (discarding r).decA.aState = .discard ∧
      1 ≤ (discarding r).decA.aDiscardRem.toNat := by decide

theorem test_witness_RecoveryWindow :
    (discarding 2).fixed.variant = .A ∧ (discarding 2).decA.aState = .discard ∧
    ([0x5A, 0x0A] : List Byte) ≠ [] ∧ ([0x5A, 0x0A] : List Byte).length = (discarding 2).decA.aDiscardRem.toNat := by
  decide

theorem test_witness_CollectStores :
    ∀ s ∈ [collecting 9 0 0, collecting 9 7 1], s.fixed.variant = .A ∧ s.decA.aIdx.toNat < 9 ∧
      s.decA.aIdx + 1 ≠ s.decA.aLen ∧ s.decA.aBuf.wf := by decide

theorem test_witness_LastByte :
    ∀ s ∈ [collecting 1 0 0, collecting 9 8 1], s.fixed.variant = .A ∧ s.decA.aIdx.toNat < 9 ∧
      s.decA.aIdx + 1 = s.decA.aLen ∧ s.decA.aBuf.wf := by decide

theorem test_witness_CollectOutside :
    ∀ s ∈ [collecting 9 9 0, collecting 0 15 0], s.fixed.variant = .A ∧ 9 ≤ s.decA.aIdx.toNat := by decide

theorem test_witness_HandshakeCodes :
    ∀ d ∈ [collecting 2 1 0, discarding 1], ∀ s ∈ [({ d with stimulus := [.rx 0x5A true] } : State)],
      s.fixed.variant = .A ∧ s.mode = .run ∧ s.tickDue = false ∧ s.stimulus = .rx 0x5A true :: [] ∧
      (s.decA.aState = .collect ∨ s.decA.aState = .discard) ∧ s.decA.aState ≠ .idle ∧
      (after (step s)).isSome = true := by decide

theorem test_witness_Foreign :
    stateA.fixed.params.letterA (hiNibble 0x02) ≠ stateA.latched.houseCode ∧
    ({ stateB with decB := { bIdx := .i4, bH := 0x70, bU := 0 } } : State).fixed.params.letterB (hiNibble 0x70) ≠
      stateB.latched.houseCode := by decide

theorem test_witness_Address :
    stateA.fixed.variant = .A ∧ stateA.fixed.params.letterA 6 = stateA.latched.houseCode := by decide

theorem test_witness_Function :
    (Instr.aFuncOff 6, Op.off) ∈ [(Instr.aFuncOn 6, Op.on), (.aFuncOff 6, .off)] ∧
    stateA.tracking.lastUnit = none ∧ (tracking 1).tracking.lastUnit = some (unitOfField 0) ∧
    (tracking 16).tracking.lastUnit = some (unitOfField 15) ∧
    (tracking 16).fixed.params.letterA 6 = (tracking 16).latched.houseCode := by decide

theorem test_witness_Template : (0xD4 : Byte) ≠ 0xD5 ∧ (0xD5 : Byte) ≠ 0xAA ∧ stateB.fixed.variant = .B := by decide

theorem test_witness_LastMarker :
    (accumulated .i4 0x50).fixed.variant = .B ∧
    (accumulated .i4 0x50).fixed.params.letterB (hiNibble (accumulated .i4 0x50).decB.bH) =
      (accumulated .i4 0x50).latched.houseCode ∧ (0xD5 : Byte) ≠ 0xAD := by decide

theorem test_witness_FrameRow : stateB.fixed.variant = .B ∧ stateB.decB.bIdx = .i0 := by decide

theorem test_witness_UnitBytes :
    (Instr.bU6Off, (5 : Fin 6), Op.off) ∈ [(Instr.bU1On, (0 : Fin 6), Op.on), (.bU1Off, 0, .off), (.bU2On, 1, .on),
      (.bU2Off, 1, .off), (.bU3On, 2, .on), (.bU3Off, 2, .off), (.bU4On, 3, .on), (.bU4Off, 3, .off),
      (.bU5On, 4, .on), (.bU5Off, 4, .off), (.bU6On, 5, .on), (.bU6Off, 5, .off)] ∧
    ((holding 0x70).token.dupValid = true ∧
      (holding 0x70).token.dupValue = (holding 0x70).fixed.params.unitCode 5 .off) ∧
    ¬ ((holding 0x71).token.dupValid = true ∧
      (holding 0x71).token.dupValue = (holding 0x71).fixed.params.unitCode 5 .off) := by decide

theorem test_witness_UnitOther :
    ((holding 0xAA).token.dupValid = true ∧ (holding 0xAA).token.dupValue = 0xAA) ∧
    ¬ (stateB.token.dupValid = true ∧ stateB.token.dupValue = 0) := by decide

theorem test_witness_RepeatedUnit :
    Instr.bU6On = unitInstr 5 .on ∧ (after (exec .bU6On stateB)).isSome = true ∧
    (after (exec (.bUOther 0xAA) stateB)).isSome = true := by decide

theorem test_witness_CameraOn :
    (Instr.camOn4, (4 : Slot)) ∈ [(Instr.camOn1, (1 : Slot)), (.camOn2, 2), (.camOn3, 3), (.camOn4, 4)] ∧
    (4 : Slot).toNat ≤ stateA.latched.maxCamera.toNat := by decide

theorem test_witness_Steps :
    ∀ s ∈ [start .A 2 .none 0 false, start .B 4 .none 4 true], 2 ≤ s.latched.maxCamera.toNat ∧
      s.camera.currentCamera.toNat ≤ s.latched.maxCamera.toNat ∧
      (Instr.stepNext, if s.latched.maxCamera.toNat ≤ s.camera.currentCamera.toNat then 1
          else s.camera.currentCamera.toNat + 1) ∈
        [(Instr.stepPrev, if s.camera.currentCamera.toNat ≤ 1 then s.latched.maxCamera.toNat
            else s.camera.currentCamera.toNat - 1),
          (.stepNext, if s.latched.maxCamera.toNat ≤ s.camera.currentCamera.toNat then 1
            else s.camera.currentCamera.toNat + 1)] := by decide

theorem test_witness_CameraOff :
    (Instr.camOff4, (4 : Slot)) ∈ [(Instr.camOff1, (1 : Slot)), (.camOff2, 2), (.camOff3, 3), (.camOff4, 4)] ∧
    ((start .A 4 .none 2 false).camera.currentCamera ≠ 4) ∧
    (∀ m ∈ [IdleMode.scan, .priorityCamera, .none], (start .A 4 m 4 false).camera.currentCamera = 4 ∧
      (start .A 4 m 4 false).latched.idleMode = m ∧ (4 : Slot).toNat ≤ (start .A 4 m 4 false).latched.maxCamera.toNat)
    := by decide

theorem test_witness_WithoutARow :
    (Instr.camOff4, 4) ∈ [(Instr.camOn1, 1), (.camOn2, 2), (.camOn3, 3), (.camOn4, 4), (.camOff1, 1), (.camOff2, 2),
      (.camOff3, 3), (.camOff4, 4)] ∧ (start .A 3 .none 1 false).latched.maxCamera.toNat < 4 := by decide

theorem test_witness_Idempotent :
    ∀ i ∈ [Instr.camOn1, .scanOn, .allOff, .camOff2],
      ((after (exec i stateA)).bind fun t => after (exec i t)).isSome = true := by decide

theorem test_witness_StepsUndo :
    (Instr.stepNext, Instr.stepPrev) ∈ [(Instr.stepPrev, Instr.stepNext), (.stepNext, .stepPrev)] ∧
    ∀ s ∈ [start .A 2 .none 1 false, start .A 4 .none 4 false], 2 ≤ s.latched.maxCamera.toNat ∧
      1 ≤ s.camera.currentCamera.toNat ∧ s.camera.currentCamera.toNat ≤ s.latched.maxCamera.toNat := by decide

theorem test_witness_Restart :
    Instr.scanOn.format = .action ∧ Instr.camOff4.WellFormed stateA.ctx ∧ (∀ o u, Instr.scanOn ≠ .noRow o u) ∧
    (after (exec .scanOn stateA)).isSome = true ∧ Instr.scanOn.WellFormed stateA.ctx :=
  ⟨rfl, by decide, fun _ _ => Instr.noConfusion, by decide, rfl⟩

/-- The clauses of the tick statements: below and at each threshold, for each policy. -/
theorem test_witness_TickA :
    (start .A 4 .none 2 true).camera.scanActive = true ∧
    (start .A 4 .none 2 true).fixed.params.scanTicks (start .A 4 .none 2 true).latched.scanPeriodMultiplier ≤
      ((start .A 4 .none 2 true).camera.scanCycleCounter + 1).toNat ∧
    (stateA.timer.resyncCounter + 1).toNat < stateA.fixed.params.resyncThreshold ∧
    stateA.fixed.params.resyncThreshold ≤ ((59 : Counter) + 1).toNat := by decide

theorem test_witness_TickB :
    (stateB.timer.prescaleCounter + 1).toNat ≠ 5 ∧ ((4 : BitVec 3) + 1).toNat = 5 := by decide

theorem test_witness_TicksNever :
    let s : State := { stateB with timer := { stateB.timer with tickPending := true } }
    s.tickDue = true ∧ (after (step s)).isSome = true := by decide

/-- A scan just started, and an idle count just restarted. -/
theorem test_witness_Periods :
    let s : State := { start .A 4 .scan 4 true with
      camera := { currentCamera := 4, scanActive := true, scanCycleCounter := 0, inactivityCounter := 0 } }
    s.fixed.variant = .A ∧ s.fixed.params.BoundsLegal ∧ s.camera.scanActive = true ∧ s.camera.scanCycleCounter = 0 ∧
      0 < s.fixed.params.scanTicks s.latched.scanPeriodMultiplier ∧ s.timer.resyncCounter = 0 ∧
      0 < s.fixed.params.resyncThreshold := by decide

theorem test_witness_IdlePeriod :
    ∀ m ∈ [IdleMode.scan, .priorityCamera, .none], ∀ s ∈ [({ start .A 4 m 3 false with
        camera := { currentCamera := 3, scanActive := false, scanCycleCounter := 0, inactivityCounter := 0 } } : State)],
      s.fixed.variant = .A ∧ s.fixed.params.BoundsLegal ∧ s.camera.scanActive = false ∧
        s.camera.inactivityCounter = 0 ∧ s.latched.idleMode = m := by decide

theorem test_witness_FiveTicks : stateB.fixed.variant = .B ∧ stateB.timer.prescaleCounter = 0 := by decide

theorem test_witness_Resync :
    wanting.fixed.variant = .A ∧ wanting.mode = .run ∧ wanting.timer.wantResync = true ∧
      wanting.decA.aState = .idle := by decide

theorem test_witness_Launch :
    State.resetRecord.Legal ∧ ({ State.resetRecord with selectedCamera := 0, maxCamera := 2 } : Record).Legal ∧
    inMenu.fixed.variant = .B ∧ inMenu.mode = .menu := by decide

theorem test_witness_LaunchRefused :
    ¬ ({ State.resetRecord with maxCamera := 1 } : Record).Legal ∧ inMenu.fixed.variant = .B ∧ inMenu.mode = .menu ∧
    stateA.fixed.variant = .A ∧ stateB.fixed.variant = .B ∧ stateB.mode = .run := by decide

theorem test_witness_OtherVariant :
    Instr.aPoll.format ∈ [Format.aFirst, .aDataCollect, .aDataDiscard, .aPayload] ∧ stateB.fixed.variant = .B ∧
    Instr.bP1.format ∈ [Format.bPos0, .bPos1, .bPos2, .bPos3, .bPos4, .bFrame, .bU] ∧ stateA.fixed.variant = .A := by
  decide

theorem test_witness_ResyncElsewhere :
    ({ wanting with mode := .menu } : State).mode = .menu ∧ stateA.timer.wantResync = false ∧
    (collecting 2 1 0).decA.aState ≠ .idle ∧ stateA.fixed.variant = .A := by decide

/-- A reachable state meets the invariants, and the surroundings may give it a byte. -/
theorem test_witness_Inv :
    let s : State := { State.reset with stimulus := [.rx 0x5A false] }
    s.Inv ∧ (∀ x rest, s.stimulus = x :: rest → s.MayReceive x) ∧ (after (step s)).isSome = true := by
  refine ⟨⟨by decide, by decide, by decide, by decide, .inl (by decide), by decide⟩, ?_, by decide⟩
  intro x rest h
  cases h
  trivial

/-- The same in Menu of variant B, where the record is loaded. -/
theorem test_witness_Inv_menu :
    let s : State := { inMenu with stimulus := [.resume], camera := State.reset.camera }
    s.Inv ∧ (∀ x rest, s.stimulus = x :: rest → s.MayReceive x) ∧ (after (step s)).isSome = true := by
  refine ⟨⟨by decide, by decide, by decide, by decide, .inl (by decide), by decide⟩, ?_, by decide⟩
  intro x rest h
  cases h
  exact ⟨rfl, rfl, by decide⟩

/-- For the statements whose hypothesis is a step or an instruction that answers a next state. -/
theorem test_witness_next :
    (∀ i ∈ [Instr.aPoll, .aNull, .aTimereq, .aDesync 0x0A, .camOn1, .stepNext], (after (exec i stateA)).isSome = true) ∧
    (after (exec .resync wanting)).isSome = true ∧ (∀ r, Instr.aPoll ≠ .reset r) :=
  ⟨by decide, by decide, fun _ => Instr.noConfusion⟩

end Sys2Proof.Tests
end

section
/-! SUPPORT. The proofs of the statements about the Frame Decoder of variant A (40_decoder_a.md): what a row does
in its own variant, what an event leaves unchanged, how a received byte is stepped, and the four statements. -/

namespace Sys2Proof.Machine

/-! ### Rows in their own variant -/

/-- In its own variant an event is carried out (00_scope.md R2). -/
theorem State.inVariant_of_eq {v : Variant} {s : State} (h : s.fixed.variant = v) (r : Result) :
    s.inVariant v r = r := if_pos h

/-- A next state is what the event itself answers: in the other variant it is refused (00_scope.md R2). -/
theorem State.next_of_inVariant {v : Variant} {s t : State} {r : Result} (h : s.inVariant v r = .next t) :
    r = .next t := by
  unfold State.inVariant at h
  split at h
  · exact h
  · cases h

/-- A first byte alone is read as its class, with no byte left over (30_encoding.md R35). -/
theorem decode_aFirst (c : Ctx) (b : Byte) : decode c .aFirst [b] = .ok (decodeFirst b, []) := rfl

/-! ### The first-byte rows -/

/-- Settles O10: each code is the row of its byte, and in variant A the row appends its reply and nothing else. -/
theorem handshakesReply : Obligations.HandshakesReply := by
  intro s hA
  have hpoll : exec .aPoll s = .next (s.tx 0xC3) := State.inVariant_of_eq hA _
  have hnull : exec .aNull s = .next (s.tx 0x00) := State.inVariant_of_eq hA _
  have htime : exec .aTimereq s = .next (s.txAll [0x9B, 0x00, 0x00, 0x00, 0x00, 0x00, 0x00]) :=
    State.inVariant_of_eq hA _
  have hready : exec .aReady s = .next s := State.inVariant_of_eq hA _
  exact ⟨decode_aFirst _ _, decode_aFirst _ _, decode_aFirst _ _, decode_aFirst _ _, hpoll, hnull, htime, hready⟩

/-- The nine A.LEN rows with the length each stands for (40_decoder_a.md R56). -/
def lengthRows : List (Instr × BitVec 4) :=
  [(.aLen1, 1), (.aLen2, 2), (.aLen3, 3), (.aLen4, 4), (.aLen5, 5), (.aLen6, 6), (.aLen7, 7), (.aLen8, 8),
    (.aLen9, 9)]

theorem decodeFirst_lengthRow : ∀ r ∈ lengthRows, decodeFirst (r.2.setWidth 8) = r.1 := by decide

theorem exec_lengthRow (s : State) :
    ∀ r ∈ lengthRows, exec r.1 s = s.inVariant .A (.next (s.startFrame r.2)) := by
  simp only [lengthRows, List.forall_mem_cons]
  exact ⟨rfl, rfl, rfl, rfl, rfl, rfl, rfl, rfl, rfl, by simp⟩

/-- Settles O11: by the row of each length, which starts the frame. -/
theorem lengthPrefixStartsAFrame : Obligations.LengthPrefixStartsAFrame := by
  intro s i n hrow hA
  have hdec : decodeFirst (n.setWidth 8) = i := decodeFirst_lengthRow (i, n) hrow
  have hexec : exec i s = .next (s.startFrame n) :=
    (exec_lengthRow s (i, n) hrow).trans (State.inVariant_of_eq hA _)
  exact ⟨by rw [decode_aFirst, hdec], hexec⟩

/-! ### What an event of the interpreter leaves unchanged -/

theorem EventFrame.fixed_eq {s t : State} (h : EventFrame s t) : t.fixed = s.fixed := by
  obtain ⟨_, _, e⟩ := h
  rw [e]

theorem EventFrame.decA_eq {s t : State} (h : EventFrame s t) : t.decA = s.decA := by
  obtain ⟨_, _, e⟩ := h
  rw [e]

theorem EventFrame.txTrace_eq {s t : State} (h : EventFrame s t) : t.out.txTrace = s.out.txTrace := by
  obtain ⟨_, _, e⟩ := h
  rw [e]

/-! ### The payload rows and the end of a frame -/

theorem exec_funcInstr (h : Nibble) (f : FuncName) (s : State) :
    exec (funcInstr h f) s = s.inVariant .A (.next (s.functionA h f)) := by
  cases f <;> rfl

/-- The row of a payload byte and its kind is the interpretation of that event (40_decoder_a.md R59; 42_interpreter.md
R72). -/
theorem exec_decodePayload (s : State) (hA : s.fixed.variant = .A) (kind : Kind) (p : Byte) :
    exec (decodePayload s.fixed.params kind p) s = .next (s.interpA kind p) := by
  cases kind with
  | address => exact State.inVariant_of_eq hA _
  | function => exact (exec_funcInstr _ _ s).trans (State.inVariant_of_eq hA _)

/-- The rows of a list of events, one after the other, are their interpretation: no event changes the tables the
later ones are read with. -/
theorem execAll_decodePayload (es : List (Kind × Byte)) (s : State) (hA : s.fixed.variant = .A) :
    execAll (es.map fun e => decodePayload s.fixed.params e.1 e.2) s = .next (s.interpAll es) := by
  induction es generalizing s with
  | nil => rfl
  | cons e es ih =>
    have hfixed := (s.interpA_frame e.1 e.2).fixed_eq
    have htail := ih (s.interpA e.1 e.2) (by rw [hfixed]; exact hA)
    rw [hfixed] at htail
    rw [List.map_cons, execAll, exec_decodePayload s hA]
    exact htail

/-- The rows of the frame in the buffer, read off the buffer directly. -/
theorem State.frameEvents_rows (s : State) :
    (s.frameEvents.map fun e => decodePayload s.fixed.params e.1 e.2) =
      (List.range (s.decA.aLen.toNat - 1)).map fun j =>
        decodePayload s.fixed.params (maskKind (s.decA.aBuf.read 0) (j + s.fixed.params.maskBitOffset))
          (s.decA.aBuf.read (j + 1)) := by
  rw [State.frameEvents, List.map_map]
  rfl

/-- A.COLLECT in variant A is the operation of 40_decoder_a.md R58. -/
theorem exec_aCollect (b : Byte) (s : State) : exec (.aCollect b) s = s.inVariant .A (s.collect b) := rfl

/-- A.DISCARD in variant A is the operation of 40_decoder_a.md R60, whatever the byte is. -/
theorem exec_aDiscard (b : Byte) (s : State) : exec (.aDiscard b) s = s.inVariant .A (.next s.discard) := rfl

/-- Settles O16: the buffer is that of the store, and the events of the frame then in it are the rows' effect. -/
theorem lastByteInterpretsTheFrame : Obligations.LastByteInterpretsTheFrame := by
  intro s b hA hidx hlast
  have hcollect : s.collect b = .next (s.storeByte b).frameDone := by
    rcases s.collect_cases b with ⟨hout, -⟩ | ⟨-, hmore, -⟩ | ⟨-, -, e⟩
    · exact absurd hidx hout
    · exact absurd hlast hmore
    · exact e
  have hrows := execAll_decodePayload (s.storeByte b).frameEvents (s.storeByte b) hA
  rw [State.frameEvents_rows] at hrows
  refine ⟨s.decA.aBuf.write s.decA.aIdx.toNat b, (s.storeByte b).interpAll (s.storeByte b).frameEvents,
    Memory.read_write_same _ _ _, fun a ha => Memory.read_write_other _ _ _ _ ha, hrows, ?_, ?_⟩
  · exact (State.interpAll_frame _ _).decA_eq
  · rw [exec_aCollect, State.inVariant_of_eq hA, hcollect]
    rfl

/-! ### The step of a received byte -/

/-- In Run with no tick due, a step on a received byte runs the row that the byte has in the decoder position, in the
main context (00_scope.md R3; 20_memory.md R31). -/
theorem step_of_rx {s : State} {i : Instr} {b : Byte} {fires : Bool} {rest : List Input} (hrun : s.mode = .run)
    (htick : s.tickDue = false) (hstim : s.stimulus = .rx b fires :: rest)
    (hdec : decode s.ctx s.position [b] = .ok (i, [])) :
    step s = leaveMain (exec i (State.enterMain fires { s with stimulus := rest })) := by
  have hbyte : State.fetchByte b fires { s with stimulus := rest } =
      .main i (State.enterMain fires { s with stimulus := rest }) := by
    have hdec' : decode (State.ctx { s with stimulus := rest }) (State.position { s with stimulus := rest }) [b] =
        .ok (i, []) := hdec
    rw [State.fetchByte, hdec']
  have hfetch : s.fetch = .main i (State.enterMain fires { s with stimulus := rest }) := by
    rw [State.fetch, htick, hstim]
    exact (if_pos hrun).trans hbyte
  rw [step, hfetch]

theorem State.position_collect {s : State} (hA : s.fixed.variant = .A) (h : s.decA.aState = .collect) :
    s.position = .aDataCollect := by
  rw [State.position, hA, h]

theorem State.position_discard {s : State} (hA : s.fixed.variant = .A) (h : s.decA.aState = .discard) :
    s.position = .aDataDiscard := by
  rw [State.position, hA, h]

/-- Leaving the main context transmits nothing: a next state has the trace of the instruction's. -/
theorem txTrace_of_leaveMain {r : Result} {t : State} {bs : List Byte}
    (hr : ∀ u, r = .next u → u.out.txTrace = bs) (h : leaveMain r = .next t) : t.out.txTrace = bs := by
  cases r with
  | next u =>
    cases h
    exact hr u rfl
  | fault f => cases h
  | refused f => cases h

theorem State.enterMain_out (fires : Bool) (s : State) : (s.enterMain fires).out = s.out := by
  rw [State.enterMain_eq]

/-- The end of a frame transmits nothing (40_decoder_a.md R59). -/
theorem State.frameDone_txTrace (s : State) : s.frameDone.out.txTrace = s.out.txTrace :=
  (s.interpAll_frame s.frameEvents).txTrace_eq

/-- A byte inside a frame is not answered (40_decoder_a.md R58, R61). -/
theorem exec_aCollect_txTrace {b : Byte} {s t : State} (h : exec (.aCollect b) s = .next t) :
    t.out.txTrace = s.out.txTrace := by
  have hc : s.collect b = .next t := State.next_of_inVariant h
  rcases s.collect_cases b with ⟨-, e⟩ | ⟨-, -, e⟩ | ⟨-, -, e⟩ <;> rw [e] at hc <;> cases hc
  · rfl
  · exact (s.storeByte b).frameDone_txTrace

/-- A byte inside the recovery window is not answered (40_decoder_a.md R60, R61). -/
theorem exec_aDiscard_txTrace {b : Byte} {s t : State} (h : exec (.aDiscard b) s = .next t) :
    t.out.txTrace = s.out.txTrace := by
  cases State.next_of_inVariant h
  rfl

/-- Settles O18: `a_state` alone selects the row, and neither row of a position inside a frame or window transmits. -/
theorem handshakeCodesAreFirstBytesOnly : Obligations.HandshakeCodesAreFirstBytesOnly := by
  intro s b fires rest hA hrun htick hstim
  have hcollect (h : s.decA.aState = .collect) :
      step s = leaveMain (exec (.aCollect b) (State.enterMain fires { s with stimulus := rest })) :=
    step_of_rx hrun htick hstim (by rw [State.position_collect hA h]; rfl)
  have hdiscard (h : s.decA.aState = .discard) :
      step s = leaveMain (exec (.aDiscard b) (State.enterMain fires { s with stimulus := rest })) :=
    step_of_rx hrun htick hstim (by rw [State.position_discard hA h]; rfl)
  have hentry : (State.enterMain fires { s with stimulus := rest }).out.txTrace = s.out.txTrace := by
    rw [State.enterMain_out]
  refine ⟨hcollect, hdiscard, fun hidle t ht => ?_⟩
  cases hstate : s.decA.aState with
  | idle => exact absurd hstate hidle
  | collect =>
    rw [hcollect hstate] at ht
    exact txTrace_of_leaveMain (fun u hu => (exec_aCollect_txTrace hu).trans hentry) ht
  | discard =>
    rw [hdiscard hstate] at ht
    exact txTrace_of_leaveMain (fun u hu => (exec_aDiscard_txTrace hu).trans hentry) ht

end Sys2Proof.Machine
end

section
/-! SUPPORT. The proofs of the statements about the interpreter and its commands (42_interpreter.md): what an event of
the configured house runs, what a unit with a row runs, what the four CAM.ON rows are, and the statements. -/

namespace Sys2Proof.Machine

/-! ### Events of the configured house -/

/-- A.ADDRESS in variant A is the Address event behind the house filter (42_interpreter.md R72). -/
theorem exec_aAddress (h d : Nibble) (s : State) :
    exec (.aAddress h d) s = s.inVariant .A (.next (s.addressA h d)) := rfl

/-- The house filter lets an event of the configured house through (42_interpreter.md R72). -/
theorem State.houseFilter_of_eq {l : House} {s : State} (hl : l = s.latched.houseCode) (event : State → State) :
    s.houseFilter l event = event s := if_pos hl

/-- An Address of the configured house is its event (42_interpreter.md R72, R73). -/
theorem State.addressA_of_house {h : Nibble} {s : State}
    (hh : s.fixed.params.letterA h = s.latched.houseCode) (d : Nibble) :
    s.addressA h d = s.addressEvent s.latched.houseCode d := by
  rw [State.addressA, State.houseFilter_of_eq hh, hh]

/-- Settles O20: the house filter passes the event, and the event writes the tracking registers only. -/
theorem addressSetsTheTracking : Obligations.AddressSetsTheTracking := by
  intro s h d hA hh
  rw [exec_aAddress, State.inVariant_of_eq hA, State.addressA_of_house hh]
  rfl

/-! ### Units with a row -/

/-- A unit that has a row carries out the row's command (42_interpreter.md R77). -/
theorem State.action_of_row {s : State} {u : UnitNo} {op : Op} {c : Command}
    (hrow : actionRow s.latched.maxCamera u op = some c) : s.action (some u) op = s.command c := by
  rcases s.action_cases (some u) op with ⟨hnone, -⟩ | ⟨v, c', hv, hrow', e⟩
  · rw [hnone u rfl] at hrow
    cases hrow
  · cases hv
    rw [hrow] at hrow'
    cases hrow'
    exact e

/-- ON of a camera's unit up to `max_camera` is that camera's CAM.ON (42_interpreter.md R77, R78). -/
theorem actionRow_camera_on {M n : Slot} (hpos : 1 ≤ n.toNat) (hfour : n.toNat ≤ 4) (hmax : n.toNat ≤ M.toNat) :
    actionRow M (n.setWidth 5) .on = some (.camOn n) := by
  have hu : (n.setWidth 5).toNat = n.toNat := BitVec.toNat_setWidth_of_le (by decide)
  have h5 : n.setWidth 5 ≠ (5 : UnitNo) := by bv_omega
  have h6 : n.setWidth 5 ≠ (6 : UnitNo) := by bv_omega
  have hback : (n.setWidth 5).setWidth 3 = n := by bv_omega
  rw [actionRow, if_neg h5, if_neg h6, hu, if_pos ⟨hpos, hfour, hmax⟩, hback]

/-! ### CAM.ON -/

/-- The four CAM.ON rows with the camera each selects (42_interpreter.md R78). -/
def camOnRows : List (Instr × Slot) := [(.camOn1, 1), (.camOn2, 2), (.camOn3, 3), (.camOn4, 4)]

theorem camOnRows_range : ∀ r ∈ camOnRows, 1 ≤ r.2.toNat ∧ r.2.toNat ≤ 4 := by decide

theorem exec_camOnRow (s : State) :
    ∀ r ∈ camOnRows, exec r.1 s = .next (s.action (some (r.2.setWidth 5)) .on) := by
  simp only [camOnRows, List.forall_mem_cons]
  exact ⟨rfl, rfl, rfl, rfl, by simp⟩

/-- The command CAM.ON restarts the inactivity count and then selects (42_interpreter.md R77, R78, R84). -/
theorem State.command_camOn (n : Slot) (s : State) :
    s.command (.camOn n) = { s with
      camera := { s.camera with currentCamera := n, scanActive := false, inactivityCounter := 0 }
      out := if s.camera.currentCamera = n then s.out
        else { s.out with muxSlot := n, odTrace := s.out.odTrace ++ [n] } } := by
  have hcommand : s.command (.camOn n) = s.qualify.select n := rfl
  rcases s.qualify.select_cases n with ⟨hsame, e⟩ | ⟨hchange, e⟩
  · have hcur : s.camera.currentCamera = n := hsame.symm
    rw [hcommand, e, if_pos hcur, ← hcur]
    rfl
  · have hcur : s.camera.currentCamera ≠ n := hchange.symm
    rw [hcommand, e, if_neg hcur]
    rfl

/-- Settles O29: the row's unit has the command CAM.ON of its camera, which restarts the count and selects. -/
theorem cameraOnSelectsTheCamera : Obligations.CameraOnSelectsTheCamera := by
  intro s i n hrow hmax
  obtain ⟨hpos, hfour⟩ := camOnRows_range (i, n) hrow
  have haction := State.action_of_row (actionRow_camera_on hpos hfour hmax)
  rw [exec_camOnRow s (i, n) hrow, haction, State.command_camOn]

end Sys2Proof.Machine
end

section
/-! SUPPORT. The proofs of the statements about the timer event and the whole machine of 60_exceptions.md: what a due
tick runs, the invariants that hold inside a step too, what keeps them, and the two statements. -/

namespace Sys2Proof.Machine

/-! ### The step of a due tick -/

/-- A due tick runs the TickStep of the variant, before any input (60_exceptions.md R105). -/
theorem step_of_tickDue {s : State} (hdue : s.tickDue = true) :
    step s = exec (tickInstr s.fixed.variant) s := by
  rw [step, State.fetch, if_pos hdue]

theorem step_tick_variantA {s : State} (hdue : s.tickDue = true) (hA : s.fixed.variant = .A) :
    step s = .next s.clearPending.scanOrIdleTick.resyncTick := by
  rw [step_of_tickDue hdue, hA, ← s.tickStepA_eq hA]
  exact State.inVariant_of_eq hA _

theorem step_tick_variantB {s : State} (hdue : s.tickDue = true) (hB : s.fixed.variant = .B) :
    step s = .next s.tickStepB := by
  rw [step_of_tickDue hdue, hB]
  exact State.inVariant_of_eq hB _

/-- A camera frame with the camera state named, so that the state after can be rewritten by the state before. -/
theorem CameraFrame.exists_eq {s t : State} (h : CameraFrame s t) :
    ∃ (camera : Camera) (calls : List Slot),
      t = { s with camera := camera,
                   out := { s.out with muxSlot := calls.getLast?.getD s.out.muxSlot,
                                       odTrace := s.out.odTrace ++ calls } } := by
  obtain ⟨calls, e⟩ := h
  exact ⟨t.camera, calls, e⟩

/-- Settles O40: the scan or idle part stays within the camera frame, and the rest of each variant's TickStep writes
only the timer's registers and, in variant B, `dup_valid`. -/
theorem ticksNeverWriteTheDecoders : Obligations.TicksNeverWriteTheDecoders := by
  intro s t hdue hstep
  cases hv : s.fixed.variant with
  | A =>
    rw [step_tick_variantA hdue hv] at hstep
    obtain ⟨camera, calls, hscan⟩ := s.clearPending.scanOrIdleTick_frame.exists_eq
    rcases s.clearPending.scanOrIdleTick.resyncTick_cases with ⟨-, e⟩ | ⟨-, e⟩
    all_goals
      rw [e, hscan] at hstep
      cases hstep
      exact ⟨⟨calls, rfl⟩, fun _ => ⟨rfl, rfl⟩, nofun⟩
  | B =>
    rw [step_tick_variantB hdue hv] at hstep
    rcases s.tickStepB_cases hv with ⟨-, e⟩ | ⟨-, e⟩
    · rw [e] at hstep
      cases hstep
      exact ⟨⟨[], by simp⟩, nofun, fun _ => ⟨rfl, rfl⟩⟩
    · obtain ⟨camera, calls, hscan⟩ := (State.scanOrIdleTick_frame _).exists_eq
      rw [e, hscan] at hstep
      cases hstep
      exact ⟨⟨calls, rfl⟩, nofun, fun _ => ⟨rfl, rfl⟩⟩

/-! ### The invariants inside a step -/

/-- What `State.Inv` says but for the mask bit and the decoder of variant A, so that it also holds inside a step of the
main context, which runs masked (20_memory.md R31), and between the events of a frame, which are interpreted with
`a_idx` at `a_len` (40_decoder_a.md R59). -/
structure State.CoreInv (s : State) : Prop where
  legal : s.fixed.params.Legal
  two_le_max : 2 ≤ s.latched.maxCamera.toNat
  max_le_four : s.latched.maxCamera.toNat ≤ 4
  current : s.camera.currentCamera.toNat ≤ s.latched.maxCamera.toNat
  scan : s.camera.scanActive = true →
    s.camera.scanCycleCounter.toNat < s.fixed.params.scanTicks s.latched.scanPeriodMultiplier
  inactivity : s.camera.inactivityCounter.toNat ≤ s.fixed.params.inactivityThreshold
  resync : s.timer.resyncCounter.toNat < s.fixed.params.resyncThreshold
  prescale : s.timer.prescaleCounter.toNat ≤ 4
  pending : s.mode = .menu → s.timer.tickPending = false
  tracking : s.TrackingInv
  output : s.OutputInv

theorem State.inv_iff_coreInv (s : State) : s.Inv ↔ s.CoreInv ∧ s.DecoderInv ∧ s.timer.timerMasked = false := by
  constructor
  · rintro ⟨legal, ⟨two_le, le_four, current, scan, inactivity⟩, decoder, ⟨resync, prescale, masked, pending⟩,
      tracking, output⟩
    exact ⟨⟨legal, two_le, le_four, current, scan, inactivity, resync, prescale, pending, tracking, output⟩, decoder,
      masked⟩
  · rintro ⟨h, decoder, masked⟩
    exact ⟨h.legal, ⟨h.two_le_max, h.max_le_four, h.current, h.scan, h.inactivity⟩, decoder,
      ⟨h.resync, h.prescale, masked, h.pending⟩, h.tracking, h.output⟩

/-- Every scan threshold is at least one tick (00_scope.md section 6). -/
theorem scanTicks_pos {p : Params} (h : p.BoundsLegal) (m : Fin 6) : 0 < p.scanTicks m := by
  obtain ⟨hscan, -⟩ := h
  exact (hscan _ (Vector.mem_toList_iff.2 (Vector.getElem_mem m.isLt))).1

/-- The device table holds the unit numbers 1 to 16 only (30_encoding.md R41). -/
theorem unitA_range {p : Params} (h : p.TablesLegal) (d : Nibble) :
    1 ≤ (p.unitA d).toNat ∧ (p.unitA d).toNat ≤ 16 := by
  obtain ⟨-, -, hunits, -⟩ := h
  exact hunits _ (Vector.mem_toList_iff.2 (Vector.getElem_mem d.isLt))

/-! ### What keeps them: commands -/

section
variable {s : State}

theorem State.select_coreInv {c : Slot} (h : s.CoreInv) (hc : c.toNat ≤ s.latched.maxCamera.toNat) :
    (s.select c).CoreInv := by
  rcases s.select_cases c with ⟨-, e⟩ | ⟨-, e⟩ <;> rw [e]
  · exact { h with scan := nofun }
  · exact { h with current := hc, scan := nofun, output := fun _ => rfl }

theorem State.enableScan_coreInv (h : s.CoreInv) : s.enableScan.CoreInv := by
  rcases s.enableScan_cases with ⟨-, e⟩ | ⟨-, e⟩ <;> rw [e]
  · exact h
  · exact { h with scan := fun _ => scanTicks_pos h.legal.2 _ }

theorem State.applyIdlePolicy_coreInv (h : s.CoreInv) : s.applyIdlePolicy.CoreInv := by
  rcases s.applyIdlePolicy_cases with ⟨-, e⟩ | ⟨-, e⟩ | ⟨-, e⟩ <;> rw [e]
  · exact enableScan_coreInv h
  · exact select_coreInv h (Nat.le_of_succ_le h.two_le_max)
  · exact h

theorem State.setInactivity_coreInv {n : Counter} (h : s.CoreInv)
    (hn : n.toNat ≤ s.fixed.params.inactivityThreshold) : (s.setInactivity n).CoreInv :=
  { h with inactivity := hn }

theorem State.note_coreInv (c : Condition) (h : s.CoreInv) : (s.note c).CoreInv := { h with }

/-- A row that selects a camera selects one up to `max_camera` (42_interpreter.md R89). -/
theorem actionRow_camOn_le {M n : Slot} {u : UnitNo} {op : Op} (hrow : actionRow M u op = some (.camOn n)) :
    n.toNat ≤ M.toNat := by
  have hlow : (u.setWidth 3).toNat ≤ u.toNat := by
    rw [BitVec.toNat_setWidth]
    exact Nat.mod_le _ _
  cases op with
  | on =>
    simp only [actionRow] at hrow
    split_ifs at hrow with h5 h6 hu <;> cases hrow
    obtain ⟨-, -, hmax⟩ := hu
    exact hlow.trans hmax
  | off =>
    simp only [actionRow] at hrow
    split_ifs at hrow <;> cases hrow

theorem State.perform_coreInv {c : Command} (h : s.CoreInv)
    (hc : ∀ n, c = .camOn n → n.toNat ≤ s.latched.maxCamera.toNat) : (s.perform c).CoreInv := by
  cases c with
  | camOn n => exact select_coreInv h (hc n rfl)
  | scanOn => exact enableScan_coreInv h
  | stepPrev =>
    obtain ⟨-, hle, -⟩ := prevSlot_range _ _ h.two_le_max h.current
    exact select_coreInv h hle
  | camOff n =>
    simp only [State.perform]
    split
    · exact applyIdlePolicy_coreInv h
    · exact h
  | allOff => exact select_coreInv h (Nat.zero_le _)
  | stepNext =>
    obtain ⟨-, hle, -⟩ := nextSlot_range _ _ h.two_le_max h.current
    exact select_coreInv h hle

theorem State.action_coreInv (u : Option UnitNo) (op : Op) (h : s.CoreInv) : (s.action u op).CoreInv := by
  rcases s.action_cases u op with ⟨-, e⟩ | ⟨v, c, -, hrow, e⟩ <;> rw [e]
  · exact note_coreInv _ h
  · have hqualify : s.qualify.CoreInv := setInactivity_coreInv h (Nat.zero_le _)
    refine perform_coreInv hqualify fun n hn => ?_
    rw [hn] at hrow
    exact actionRow_camOn_le hrow

/-! ### What keeps them: events of the interpreter -/

theorem State.functionEvent_coreInv (f : FuncName) (h : s.CoreInv) : (s.functionEvent f).CoreInv := by
  rcases s.functionEvent_cases f with ⟨-, e⟩ | ⟨-, e⟩ | ⟨-, -, e⟩ <;> rw [e]
  · exact action_coreInv _ _ h
  · exact action_coreInv _ _ h
  · exact note_coreInv _ h

theorem State.addressEvent_coreInv {l : House} (d : Nibble) (h : s.CoreInv) (hl : l = s.latched.houseCode) :
    (s.addressEvent l d).CoreInv :=
  { h with tracking := .inr ⟨congrArg some hl, _, rfl, unitA_range h.legal.1 d⟩ }

theorem State.houseFilter_coreInv {l : House} {event : State → State} (h : s.CoreInv)
    (hevent : l = s.latched.houseCode → (event s).CoreInv) : (s.houseFilter l event).CoreInv := by
  rcases s.houseFilter_cases l event with ⟨hl, e⟩ | ⟨-, e⟩ <;> rw [e]
  · exact hevent hl
  · exact note_coreInv _ h

theorem State.interpA_coreInv (kind : Kind) (p : Byte) (h : s.CoreInv) : (s.interpA kind p).CoreInv := by
  cases kind with
  | address => exact houseFilter_coreInv h (addressEvent_coreInv _ h)
  | function => exact houseFilter_coreInv h fun _ => functionEvent_coreInv _ h

theorem State.interpAll_coreInv (es : List (Kind × Byte)) (h : s.CoreInv) : (s.interpAll es).CoreInv := by
  induction es generalizing s with
  | nil => exact h
  | cons e es ih => exact ih (interpA_coreInv e.1 e.2 h)

theorem State.eventRow_coreInv (raw : Byte) (row : Option (Fin 6 × Op)) (h : s.CoreInv) :
    (s.eventRow raw row).CoreInv := by
  have hhold : State.CoreInv { s with token := Token.hold raw } := { h with }
  rcases s.eventRow_cases raw row with ⟨-, e⟩ | ⟨-, -, e⟩ | ⟨-, k, op, -, e⟩ <;> rw [e]
  · exact note_coreInv _ h
  · exact note_coreInv _ hhold
  · exact action_coreInv _ _ hhold

theorem State.emitB_coreInv (bH bU : Byte) (h : s.CoreInv) : (s.emitB bH bU).CoreInv :=
  houseFilter_coreInv h fun _ => eventRow_coreInv _ _ h

/-! ### What keeps them: the decoders -/

/-- What a byte can do in variant B: fail its position, advance past a marker, be held as `H` or as `U`, or complete
the frame (41_decoder_b.md R64 to R69). -/
theorem State.decodeB_cases (b : Byte) (s : State) :
    s.decodeB b = s.mismatch ∨ (∃ k, s.decodeB b = s.setBIdx k) ∨ s.decodeB b = s.posH b ∨
      s.decodeB b = s.posU b ∨ s.decodeB b = (s.emitB s.decB.bH s.decB.bU).setBIdx .i0 := by
  unfold State.decodeB
  cases s.decB.bIdx with
  | i0 =>
    simp only [State.posP1]
    split
    · exact .inr (.inl ⟨_, rfl⟩)
    · exact .inl rfl
  | i1 =>
    simp only [State.posP2]
    split
    · exact .inr (.inl ⟨_, rfl⟩)
    · exact .inl rfl
  | i2 => exact .inr (.inr (.inl rfl))
  | i3 => exact .inr (.inr (.inr (.inl rfl)))
  | i4 =>
    simp only [State.posP3]
    split
    · exact .inr (.inr (.inr (.inr rfl)))
    · exact .inl rfl

theorem State.decodeB_coreInv (b : Byte) (h : s.CoreInv) : (s.decodeB b).CoreInv := by
  rcases s.decodeB_cases b with e | ⟨k, e⟩ | e | e | e <;> rw [e]
  · exact { h with }
  · exact { h with }
  · exact { h with }
  · exact { h with }
  · exact { emitB_coreInv _ _ h with }

/-- The decoder's invariants are about the decoder's registers and the tables only. -/
theorem State.DecoderInv.of_eq {t : State} (h : s.DecoderInv) (hdec : t.decA = s.decA) (hfixed : t.fixed = s.fixed) :
    t.DecoderInv := by
  rwa [State.DecoderInv, hdec, hfixed]

theorem EventFrame.decoderInv {t : State} (hframe : EventFrame s t) (h : s.DecoderInv) : t.DecoderInv :=
  h.of_eq hframe.decA_eq hframe.fixed_eq

/-- Variant B does not touch the decoder of variant A. -/
theorem State.decodeB_decoderInv (b : Byte) (h : s.DecoderInv) : (s.decodeB b).DecoderInv := by
  rcases s.decodeB_cases b with e | ⟨k, e⟩ | e | e | e <;> rw [e]
  · exact h
  · exact h
  · exact h
  · exact h
  · exact (s.emitB_frame _ _).decoderInv h

theorem State.startFrame_decoderInv {n : BitVec 4} (h : s.DecoderInv) (hpos : 1 ≤ n.toNat) (hmax : n.toNat ≤ 9) :
    (s.startFrame n).DecoderInv := by
  obtain ⟨-, -, hbuf⟩ := h
  exact ⟨fun _ => ⟨hpos, hmax, hpos⟩, nofun, hbuf⟩

/-- The draw lies in the recovery window, so a window that is opened is not empty (40_decoder_a.md R57). -/
theorem State.desync_decoderInv (b : Byte) (h : s.DecoderInv) (hwindow : s.fixed.params.recoveryWindow ≤ 255) :
    (s.desync b (s.drawn s.fixed.params.recoveryWindow)).DecoderInv := by
  obtain ⟨-, -, hbuf⟩ := h
  have hdraw : s.drawn s.fixed.params.recoveryWindow ≤ s.fixed.params.recoveryWindow :=
    Nat.le_of_lt_succ (Nat.mod_lt _ (Nat.succ_pos _))
  generalize s.drawn s.fixed.params.recoveryWindow = d at hdraw
  have hd : (BitVec.ofNat 8 d).toNat = d := BitVec.toNat_ofNat d 8 ▸ Nat.mod_eq_of_lt (by omega)
  refine ⟨?_, ?_, hbuf⟩ <;> simp only [State.desync_decA, State.desync_fixed, hd]
  · split <;> exact nofun
  · split
    · exact nofun
    · exact fun _ => ⟨by omega, hdraw⟩

/-- The last byte of the window closes it (40_decoder_a.md R60). -/
theorem State.discard_decoderInv (h : s.DecoderInv) (hstate : s.decA.aState = .discard) : s.discard.DecoderInv := by
  obtain ⟨-, hwindow, hbuf⟩ := h
  obtain ⟨hpos, hmax⟩ := hwindow hstate
  refine ⟨?_, ?_, hbuf⟩ <;> simp only [State.discard_decA, State.discard_fixed, hstate]
  · split <;> exact nofun
  · split
    · exact nofun
    · exact fun _ => by bv_omega

/-- `A.COLLECT` inside a frame finds its byte of the buffer, and its index stays below the length until the frame's
last byte, which leaves the frame (40_decoder_a.md R58, R59). -/
theorem State.collect_keeps (b : Byte) (h : s.CoreInv) (hdec : s.DecoderInv) (hstate : s.decA.aState = .collect) :
    ∃ t, s.collect b = .next t ∧ t.CoreInv ∧ t.DecoderInv := by
  obtain ⟨hframe, -, hwf, hin⟩ := hdec
  obtain ⟨hpos, hmax, hidx⟩ := hframe hstate
  have hstore : (s.storeByte b).CoreInv := { h with }
  have hbuf : (s.storeByte b).decA.aBuf.wf ∧ (s.storeByte b).decA.aBuf.inBuffer :=
    ⟨Memory.write_wf _ _ _ hwf, Memory.write_inBuffer _ _ _ hin (hidx.trans_le hmax)⟩
  rcases s.collect_cases b with ⟨hout, -⟩ | ⟨-, hmore, e⟩ | ⟨-, -, e⟩
  · exact absurd (hidx.trans_le hmax) hout
  · refine ⟨_, e, hstore, fun _ => ⟨hpos, hmax, ?_⟩, fun hdiscard => ?_, hbuf⟩
    · simp only [State.storeByte_decA]
      bv_omega
    · exact absurd (hstate.symm.trans hdiscard) nofun
  · have hdecA := ((s.storeByte b).interpAll_frame (s.storeByte b).frameEvents).decA_eq
    refine ⟨_, e, { interpAll_coreInv _ hstore with }, nofun, nofun, ?_⟩
    rwa [← hdecA] at hbuf

end

/-! ### A received byte -/

/-- What a byte's step asks of its row: an outcome, with the invariants that hold while masked. -/
def RowKeeps (i : Instr) (s : State) : Prop := ∃ t, exec i s = .next t ∧ t.CoreInv ∧ t.DecoderInv

theorem exec_aDesync (b : Byte) (s : State) :
    exec (.aDesync b) s = s.inVariant .A (.next (s.desync b (s.drawn s.fixed.params.recoveryWindow))) := rfl

/-- A first byte with a row of its own is one of the handshakes or of the lengths (30_encoding.md R35). -/
theorem firstRows_handshake_or_length :
    ∀ r ∈ Laws.firstRows, r.2 ∈ [Instr.aPoll, .aNull, .aTimereq, .aReady] ∨ r.2 ∈ lengthRows.map Prod.fst := by
  decide

theorem lengthRows_range : ∀ r ∈ lengthRows, 1 ≤ r.2.toNat ∧ r.2.toNat ≤ 9 := by decide

theorem handshake_keeps {s : State} (hA : s.fixed.variant = .A) (h : s.CoreInv) (hdec : s.DecoderInv) :
    ∀ i ∈ [Instr.aPoll, .aNull, .aTimereq, .aReady], RowKeeps i s := by
  obtain ⟨-, -, -, -, hpoll, hnull, htime, hready⟩ := handshakesReply s hA
  simp only [List.forall_mem_cons]
  exact ⟨⟨_, hpoll, { h with }, hdec⟩, ⟨_, hnull, { h with }, hdec⟩, ⟨_, htime, { h with }, hdec⟩,
    ⟨_, hready, h, hdec⟩, by simp⟩

theorem lengthPrefix_keeps {s : State} (hA : s.fixed.variant = .A) (h : s.CoreInv) (hdec : s.DecoderInv) :
    ∀ i ∈ lengthRows.map Prod.fst, RowKeeps i s := by
  intro i hi
  obtain ⟨r, hr, rfl⟩ := List.mem_map.1 hi
  obtain ⟨hpos, hmax⟩ := lengthRows_range r hr
  exact ⟨_, (exec_lengthRow s r hr).trans (State.inVariant_of_eq hA _), { h with },
    State.startFrame_decoderInv hdec hpos hmax⟩

theorem decodeFirst_keeps {s : State} (b : Byte) (hA : s.fixed.variant = .A) (h : s.CoreInv) (hdec : s.DecoderInv) :
    RowKeeps (decodeFirst b) s := by
  rcases decodeFirst_cases b with hrow | ⟨-, e⟩
  · rcases firstRows_handshake_or_length _ hrow with hi | hi
    · exact handshake_keeps hA h hdec _ hi
    · exact lengthPrefix_keeps hA h hdec _ hi
  · obtain ⟨-, -, -, -, -, hwindow, -⟩ := h.legal
    rw [e]
    exact ⟨_, (exec_aDesync b s).trans (State.inVariant_of_eq hA _), { h with },
      State.desync_decoderInv b hdec hwindow⟩

/-- At a marker position the marker's row and the row of any other byte are one transition on the byte read. -/
theorem exec_markerRow {s : State} {b marker : Byte} {hit miss : Instr} {position : Byte → State}
    (hhit : exec hit s = .next (position marker)) (hmiss : exec miss s = .next (position b)) :
    exec (if b = marker then hit else miss) s = .next (position b) := by
  split
  next hb => rw [hb]; exact hhit
  next => exact hmiss

/-- In variant B the row of a byte is that byte's transition in the template (41_decoder_b.md R64). -/
theorem exec_received_variantB {s : State} (b : Byte) (hB : s.fixed.variant = .B) :
    ∃ i, decode s.ctx s.position [b] = .ok (i, []) ∧ exec i s = .next (s.decodeB b) := by
  unfold State.position State.decodeB
  rw [hB]
  cases s.decB.bIdx with
  | i0 =>
    exact ⟨_, rfl, exec_markerRow (position := (State.posP1 · s)) (State.inVariant_of_eq hB _)
      (State.inVariant_of_eq hB _)⟩
  | i1 =>
    exact ⟨_, rfl, exec_markerRow (position := (State.posP2 · s)) (State.inVariant_of_eq hB _)
      (State.inVariant_of_eq hB _)⟩
  | i2 =>
    refine ⟨_, rfl, (State.inVariant_of_eq hB _).trans ?_⟩
    rw [joinNibbles_nibbles]
  | i3 => exact ⟨_, rfl, State.inVariant_of_eq hB _⟩
  | i4 =>
    exact ⟨_, rfl, exec_markerRow (position := (State.posP3 · s)) (State.inVariant_of_eq hB _)
      (State.inVariant_of_eq hB _)⟩

/-- Every byte has a row in the decoder position, and the row keeps the invariants (30_encoding.md R47). -/
theorem exec_received_keeps {s : State} (b : Byte) (h : s.CoreInv) (hdec : s.DecoderInv) :
    ∃ i, decode s.ctx s.position [b] = .ok (i, []) ∧ RowKeeps i s := by
  cases hv : s.fixed.variant with
  | A =>
    cases hstate : s.decA.aState with
    | idle =>
      have hpos : s.position = .aFirst := by rw [State.position, hv, hstate]
      exact ⟨_, by rw [hpos, decode_aFirst], decodeFirst_keeps b hv h hdec⟩
    | collect =>
      obtain ⟨t, ht, hkept⟩ := State.collect_keeps b h hdec hstate
      refine ⟨.aCollect b, by rw [State.position_collect hv hstate]; rfl, t, ?_, hkept⟩
      rw [exec_aCollect, State.inVariant_of_eq hv, ht]
    | discard =>
      exact ⟨.aDiscard b, by rw [State.position_discard hv hstate]; rfl, _,
        (exec_aDiscard b s).trans (State.inVariant_of_eq hv _), { h with }, State.discard_decoderInv hdec hstate⟩
  | B =>
    obtain ⟨i, hi, hexec⟩ := exec_received_variantB b hv
    exact ⟨i, hi, _, hexec, State.decodeB_coreInv b h, State.decodeB_decoderInv b hdec⟩

/-! ### A due tick -/

section
variable {s : State}

/-- The inactivity count plays no part in the idle policy. -/
theorem State.applyIdlePolicy_setInactivity (n : Counter) (s : State) :
    (s.setInactivity n).applyIdlePolicy = s.applyIdlePolicy.setInactivity n := by
  have hselect : (s.setInactivity n).select 1 = (s.select 1).setInactivity n := by
    simp only [State.select, apply_ite (State.setInactivity n)]
    rfl
  have henable : (s.setInactivity n).enableScan = s.enableScan.setInactivity n := by
    cases hscan : s.camera.scanActive <;>
      simp [State.enableScan, Camera.enableScan, State.setInactivity, hscan]
  unfold State.applyIdlePolicy
  rw [State.setInactivity_latched]
  split
  · exact henable
  · exact hselect
  · rfl

theorem State.idleTick_coreInv (h : s.CoreInv) : s.idleTick.CoreInv := by
  rcases s.idleTick_cases with ⟨hbelow, e⟩ | ⟨-, e⟩ <;> rw [e]
  · exact setInactivity_coreInv h hbelow
  · rw [State.applyIdlePolicy_setInactivity]
    exact { applyIdlePolicy_coreInv h with inactivity := Nat.zero_le _ }

theorem State.scanTick_coreInv (h : s.CoreInv) : s.scanTick.CoreInv := by
  obtain ⟨-, hnext, -⟩ := nextSlot_range _ _ h.two_le_max h.current
  rcases s.scanTick_cases with ⟨hbelow, e⟩ | ⟨-, e⟩ <;> rw [e]
  · exact { h with scan := fun _ => hbelow }
  · exact { h with
      current := hnext
      scan := fun _ => scanTicks_pos h.legal.2 _
      output := fun _ => rfl }

theorem State.scanOrIdleTick_coreInv (h : s.CoreInv) : s.scanOrIdleTick.CoreInv := by
  rcases s.scanOrIdleTick_cases with ⟨-, e⟩ | ⟨-, e⟩ <;> rw [e]
  · exact scanTick_coreInv h
  · exact idleTick_coreInv h

theorem State.resyncTick_coreInv (h : s.CoreInv) : s.resyncTick.CoreInv := by
  obtain ⟨-, -, -, hpos, -⟩ := h.legal
  rcases s.resyncTick_cases with ⟨hbelow, e⟩ | ⟨-, e⟩ <;> rw [e]
  · exact { h with resync := hbelow }
  · exact { h with resync := hpos }

theorem State.clearPending_coreInv (h : s.CoreInv) : s.clearPending.CoreInv := { h with pending := fun _ => rfl }

/-- The prescale counter stays below five: it is cleared when it would reach it (43_timer.md R92). -/
theorem State.tickStepB_coreInv (h : s.CoreInv) (hB : s.fixed.variant = .B) : s.tickStepB.CoreInv := by
  have hprescale := h.prescale
  rcases s.tickStepB_cases hB with ⟨hne, e⟩ | ⟨-, e⟩ <;> rw [e]
  · have hbelow : (s.timer.prescaleCounter + 1).toNat ≤ 4 := by
      simp only [Config.prescale] at hne
      bv_omega
    exact { h with prescale := hbelow, pending := fun _ => rfl }
  · exact scanOrIdleTick_coreInv { h with prescale := Nat.zero_le _, pending := fun _ => rfl }

theorem step_tick_coreInv (h : s.CoreInv) (hdue : s.tickDue = true) : ∃ t, step s = .next t ∧ t.CoreInv := by
  cases hv : s.fixed.variant with
  | A =>
    exact ⟨_, step_tick_variantA hdue hv,
      State.resyncTick_coreInv (State.scanOrIdleTick_coreInv (State.clearPending_coreInv h))⟩
  | B => exact ⟨_, step_tick_variantB hdue hv, State.tickStepB_coreInv h hv⟩

/-- A due tick has an outcome with the invariants: it leaves the decoder and the mask bit as they are
(60_exceptions.md R107). -/
theorem step_tick_inv (h : s.Inv) (hdue : s.tickDue = true) : ∃ t, step s = .next t ∧ t.Inv := by
  obtain ⟨hcore, hdec, hmask⟩ := s.inv_iff_coreInv.1 h
  obtain ⟨t, ht, htcore⟩ := step_tick_coreInv hcore hdue
  obtain ⟨⟨calls, e⟩, -, -⟩ := ticksNeverWriteTheDecoders s t hdue ht
  refine ⟨t, ht, t.inv_iff_coreInv.2 ⟨htcore, hdec.of_eq ?_ ?_, ?_⟩⟩ <;> rw [e]
  exact hmask

/-! ### A step of the main context -/

theorem State.timerFires_coreInv (h : s.CoreInv) : s.timerFires.CoreInv := by
  rcases s.timerFires_cases with ⟨hrun, e⟩ | ⟨-, e⟩ <;> rw [e]
  · exact { h with pending := fun hmenu => absurd (hrun.symm.trans hmenu) nofun }
  · exact h

theorem State.timerFires_inv (h : s.Inv) : s.timerFires.Inv := by
  obtain ⟨hcore, hdec, hmask⟩ := s.inv_iff_coreInv.1 h
  refine (State.inv_iff_coreInv _).2 ⟨timerFires_coreInv hcore, ?_⟩
  rcases s.timerFires_cases with ⟨-, e⟩ | ⟨-, e⟩ <;> rw [e] <;> exact ⟨hdec, hmask⟩

/-- The main context is entered with the invariants that hold while masked. -/
theorem State.enterMain_coreInv (fires : Bool) (h : s.CoreInv) : (s.enterMain fires).CoreInv := by
  cases fires with
  | false => exact { h with }
  | true => exact timerFires_coreInv (s := s.mask) { h with }

theorem State.enterMain_decoderInv (fires : Bool) (h : s.DecoderInv) : (s.enterMain fires).DecoderInv :=
  h.of_eq (by rw [State.enterMain_eq]) (by rw [State.enterMain_eq])

/-- A row that keeps the invariants while masked ends, unmasked, in a state with all of them. -/
theorem RowKeeps.leaveMain_inv {i : Instr} (h : RowKeeps i s) : ∃ t, leaveMain (exec i s) = .next t ∧ t.Inv := by
  obtain ⟨t, ht, hcore, hdec⟩ := h
  exact ⟨t.unmask, by rw [ht, leaveMain], t.unmask.inv_iff_coreInv.2 ⟨{ hcore with }, hdec, rfl⟩⟩

/-- ResyncStep is enabled in variant A only (43_timer.md R96). -/
theorem State.variant_of_resyncEnabled (h : s.resyncEnabled = true) : s.fixed.variant = .A := by
  simp only [State.resyncEnabled, Bool.and_eq_true, beq_iff_eq] at h
  obtain ⟨⟨⟨hA, -⟩, -⟩, -⟩ := h
  exact hA

theorem exec_resync_keeps (h : s.CoreInv) (hdec : s.DecoderInv) (henabled : s.resyncEnabled = true) :
    RowKeeps .resync s := by
  have hA := State.variant_of_resyncEnabled henabled
  have hexec : exec .resync s = .next s.resyncStep := (State.inVariant_of_eq hA _).trans (if_pos henabled)
  exact ⟨_, hexec, { h with }, hdec⟩

end

/-! ### Reset and Resume -/

theorem initialCamera_currentCamera_le {r : Record} (hr : r.Legal) :
    (initialCamera r).currentCamera.toNat ≤ r.maxCamera := by
  obtain ⟨hsel, htwo, -⟩ := hr
  have hselected : (BitVec.ofNat 3 r.selectedCamera).toNat ≤ r.maxCamera := by
    rw [BitVec.toNat_ofNat]
    exact (Nat.mod_le _ _).trans hsel
  unfold initialCamera Camera.initIdlePolicy
  cases r.idleMode with
  | priorityCamera => exact Nat.le_of_succ_le htwo
  | _ => exact hselected

theorem initialCamera_counters (r : Record) :
    (initialCamera r).scanCycleCounter = 0 ∧ (initialCamera r).inactivityCounter = 0 := by
  unfold initialCamera Camera.initIdlePolicy
  cases r.idleMode <;> exact ⟨rfl, rfl⟩

/-- A launch with a legal record meets the invariants, whatever the registers it writes held before
(70_reset_and_hazards.md R117 to R120). -/
theorem State.launch_inv {s : State} {r : Record} (hlegal : s.fixed.params.Legal)
    (hbuf : s.decA.aBuf.wf ∧ s.decA.aBuf.inBuffer) (hr : r.Legal) : (s.launch r).Inv := by
  have ⟨_, htwo, hfour, _⟩ := hr
  obtain ⟨hscan, -, hresync, -⟩ := hlegal.2
  obtain ⟨hcycle, hidle⟩ := initialCamera_counters r
  have hmax : (s.launch r).latched.maxCamera.toNat = r.maxCamera := by
    rw [State.launch_latched, BitVec.toNat_ofNat]
    omega
  refine (State.inv_iff_coreInv _).2 ⟨?_, ⟨nofun, nofun, hbuf⟩, rfl⟩
  exact {
    legal := hlegal
    two_le_max := hmax ▸ htwo
    max_le_four := hmax ▸ hfour
    current := hmax ▸ initialCamera_currentCamera_le hr
    scan := fun _ => by
      rw [State.launch_camera, hcycle]
      exact scanTicks_pos hlegal.2 _
    inactivity := by
      rw [State.launch_camera, hidle]
      exact Nat.zero_le _
    resync := hresync
    prescale := Nat.zero_le _
    pending := fun _ => rfl
    tracking := .inl ⟨rfl, rfl⟩
    output := fun _ => rfl }

theorem exec_reset_of_legal {r : Record} (hr : r.Legal) (s : State) :
    exec (.reset r) s = .next (s.powerLoss.launch r) := if_pos hr

theorem exec_resume_of_menu {s : State} {r : Record} (hB : s.fixed.variant = .B) (hmenu : s.mode = .menu)
    (hr : r.Legal) : exec (.resume r) s = .next (s.launch r) :=
  (State.inVariant_of_eq hB _).trans ((if_pos hmenu).trans (if_pos hr))

/-! ### Every step -/

section
variable {s t : State} {i : Instr} {x : Input} {rest : List Input}

theorem step_of_main (hfetch : s.fetch = .main i t) : step s = leaveMain (exec i t) := by rw [step, hfetch]

theorem step_of_other (hfetch : s.fetch = .other i t) : step s = exec i t := by rw [step, hfetch]

theorem step_of_quiet (hfetch : s.fetch = .quiet t) : step s = .next t := by rw [step, hfetch]

/-- With no tick due, the next input is taken off the stimulus (60_exceptions.md R105). -/
theorem fetch_of_input (hdue : s.tickDue = false) (hstim : s.stimulus = x :: rest) :
    s.fetch = State.take x { s with stimulus := rest } := by
  rw [State.fetch, hdue, hstim]
  rfl

theorem State.enterMenu_inv (h : s.Inv) : s.enterMenu.Inv := by
  obtain ⟨hcore, hdec, hmask⟩ := s.inv_iff_coreInv.1 h
  exact s.enterMenu.inv_iff_coreInv.2 ⟨{ hcore with pending := fun _ => rfl, output := nofun }, hdec, hmask⟩

/-- A byte in Run has a row, run in the main context; in Menu it is the Menu Controller's (60_exceptions.md R110). -/
theorem step_rx_inv {b : Byte} {fires : Bool} (h : s.Inv) (hdue : s.tickDue = false)
    (hstim : s.stimulus = .rx b fires :: rest) : ∃ t, step s = .next t ∧ t.Inv := by
  cases hmode : s.mode with
  | run =>
    obtain ⟨hcore, hdec, -⟩ := (State.inv_iff_coreInv { s with stimulus := rest }).1 h
    obtain ⟨i, hi, hrow⟩ := exec_received_keeps b (State.enterMain_coreInv fires hcore)
      (State.enterMain_decoderInv fires hdec)
    rw [State.enterMain_eq] at hi
    rw [step_of_rx hmode hdue hstim hi]
    exact hrow.leaveMain_inv
  | menu =>
    have hnot : s.mode ≠ .run := by
      rw [hmode]
      exact nofun
    have hquiet : State.take (.rx b fires) { s with stimulus := rest } = .quiet { s with stimulus := rest } :=
      if_neg hnot
    exact ⟨_, step_of_quiet ((fetch_of_input hdue hstim).trans hquiet), h⟩

/-- The receive loop runs ResyncStep where it is enabled, and else only remembers a firing (43_timer.md R96). -/
theorem step_receiveLoop_inv {fires : Bool} (h : s.Inv) (hdue : s.tickDue = false)
    (hstim : s.stimulus = .receiveLoop fires :: rest) : ∃ t, step s = .next t ∧ t.Inv := by
  have hrest : State.Inv { s with stimulus := rest } := h
  obtain ⟨hcore, hdec, -⟩ := (State.inv_iff_coreInv _).1 hrest
  have hfetch := fetch_of_input hdue hstim
  cases henabled : s.resyncEnabled with
  | true =>
    rw [step_of_main (hfetch.trans (if_pos henabled))]
    have henabled' : (State.enterMain fires { s with stimulus := rest }).resyncEnabled = true := by
      rw [State.enterMain_eq]
      exact henabled
    exact (exec_resync_keeps (State.enterMain_coreInv fires hcore) (State.enterMain_decoderInv fires hdec)
      henabled').leaveMain_inv
  | false =>
    refine ⟨_, step_of_quiet (hfetch.trans (if_neg (Bool.eq_false_iff.1 henabled))), ?_⟩
    split
    · exact State.timerFires_inv hrest
    · exact hrest

/-- Every input the surroundings may give has an outcome with the invariants. -/
theorem step_input_inv (h : s.Inv) (hdue : s.tickDue = false) (hstim : s.stimulus = x :: rest)
    (hmay : s.MayReceive x) : ∃ t, step s = .next t ∧ t.Inv := by
  have hrest : State.Inv { s with stimulus := rest } := h
  obtain ⟨hcore, hdec, hmask⟩ := (State.inv_iff_coreInv _).1 hrest
  have hfetch := fetch_of_input hdue hstim
  cases x with
  | rx b fires => exact step_rx_inv h hdue hstim
  | timerFires => exact ⟨_, step_of_quiet hfetch, State.timerFires_inv hrest⟩
  | receiveLoop fires => exact step_receiveLoop_inv h hdue hstim
  | enterMenu => exact ⟨_, step_of_quiet hfetch, State.enterMenu_inv hrest⟩
  | menuSave r => exact ⟨_, step_of_quiet (hfetch.trans (if_pos hmay)), hrest⟩
  | menuDrive c =>
    have ⟨hmenu, _⟩ : s.mode = .menu ∧ s.fixed.variant = .B ∧ c.toNat ≤ 4 := hmay
    have hcore' : State.CoreInv { s with stimulus := rest, out := { s.out with muxSlot := c } } :=
      { hcore with output := fun hrun => nomatch hmenu.symm.trans hrun }
    exact ⟨_, step_of_quiet (hfetch.trans (if_pos hmay)), (State.inv_iff_coreInv _).2 ⟨hcore', hdec, hmask⟩⟩
  | resume =>
    obtain ⟨hmenu, hB, hlegal⟩ := hmay
    obtain ⟨-, -, hbuf⟩ := hdec
    exact ⟨_, (step_of_other hfetch).trans (exec_resume_of_menu hB hmenu hlegal),
      State.launch_inv hcore.legal hbuf hlegal⟩
  | powerUp =>
    exact ⟨_, (step_of_other hfetch).trans (exec_reset_of_legal hmay _),
      State.launch_inv hcore.legal State.reset_memory_wf hmay⟩

end

/-- Settles O54: a due tick, no input, and every input the surroundings may give each have an outcome, and none of
them leaves the invariants. -/
theorem noStepStops : Obligations.NoStepStops := by
  intro s h hmay
  cases hdue : s.tickDue with
  | true => exact step_tick_inv h hdue
  | false =>
    cases hstim : s.stimulus with
    | nil =>
      have hfetch : s.fetch = .quiet s := by
        rw [State.fetch, hdue, hstim]
        rfl
      exact ⟨s, step_of_quiet hfetch, h⟩
    | cons x rest => exact step_input_inv h hdue hstim (hmay x rest hstim)

end Sys2Proof.Machine
end

section
/-! SUPPORT. The proofs of the statements about the encoding (30_encoding.md): what each part of the decoder reads its
own bytes as, what any bytes are read as, and the four statements. -/

namespace Sys2Proof.Machine

/-! ### The rows of the action table -/

/-- The ACTION rows that stand for a command, with the operation and the unit field of each (30_encoding.md R50). -/
def actionRows : List (Instr × Op × Nibble) :=
  [(.camOn1, .on, 0), (.camOn2, .on, 1), (.camOn3, .on, 2), (.camOn4, .on, 3), (.scanOn, .on, 4), (.stepPrev, .on, 5),
   (.camOff1, .off, 0), (.camOff2, .off, 1), (.camOff3, .off, 2), (.camOff4, .off, 3), (.allOff, .off, 4),
   (.stepNext, .off, 5)]

/-- Two fields are read as the row of a command, or there is no row and they are kept (30_encoding.md R50). -/
theorem decodeAction_cases (M : Slot) (o : Op) (u : Nibble) :
    (decodeAction M o u, o, u) ∈ actionRows ∨
      (actionRow M (unitOfField u) o = none ∧ decodeAction M o u = .noRow o u) := by
  cases o <;> revert M u <;> decide

/-- A well-formed row of a command is the one its fields are read as. -/
theorem decodeAction_actionRow (p : Params) (M : Slot) :
    ∀ r ∈ actionRows, r.1.WellFormed ⟨p, M⟩ → decodeAction M r.2.1 r.2.2 = r.1 := by
  have hdefault : ∀ M : Slot, ∀ r ∈ actionRows, r.1.WellFormed ⟨defaultParams, M⟩ →
      decodeAction M r.2.1 r.2.2 = r.1 := by decide
  have hparams : ∀ r ∈ actionRows, r.1.wellFormed ⟨p, M⟩ = r.1.wellFormed ⟨defaultParams, M⟩ := by
    simp only [actionRows, List.forall_mem_cons]
    exact ⟨rfl, rfl, rfl, rfl, rfl, rfl, rfl, rfl, rfl, rfl, rfl, rfl, by simp⟩
  exact fun r hr hwf => hdefault M r hr ((hparams r hr).symm.trans hwf)

theorem decodeAction_noRow {M : Slot} {o : Op} {u : Nibble} (h : actionRow M (unitOfField u) o = none) :
    decodeAction M o u = .noRow o u := by
  unfold decodeAction
  rw [h]

/-! ### Each part of the decoder on its own bytes -/

section
variable {c : Ctx} (rest : List Byte)

/-- An Address payload is read as its row: mask bit 0 is the kind Address (30_encoding.md R37, R38). -/
theorem decode_addressBytes (h d : Nibble) :
    decode c .aPayload (addressBytes h d ++ rest) = .ok (.aAddress h d, rest) := by
  have hread : decode c .aPayload (addressBytes h d ++ rest) =
      .ok (.aAddress (hiNibble (joinNibbles h d)) (loNibble (joinNibbles h d)), rest) := rfl
  rw [hread, hiNibble_joinNibbles, loNibble_joinNibbles]

/-- A Function payload is read as the row of its code's name (30_encoding.md R39, R42). -/
theorem decode_functionBytes (hlegal : c.params.TablesLegal) (f : FuncName) (h : Nibble) :
    decode c .aPayload (functionBytes c.params f h ++ rest) = .ok (funcInstr h f, rest) := by
  obtain ⟨-, -, -, hfunctions, -⟩ := hlegal
  have hread : decode c .aPayload (functionBytes c.params f h ++ rest) =
      .ok (funcInstr (hiNibble (joinNibbles h (c.params.funcCode f)))
        (c.params.funcName (loNibble (joinNibbles h (c.params.funcCode f)))), rest) := rfl
  rw [hread, hiNibble_joinNibbles, loNibble_joinNibbles, c.params.funcName_funcCode hfunctions]

/-- The byte of an entry is read as the entry's row (30_encoding.md R45). -/
theorem decode_unitCode (hlegal : c.params.TablesLegal) (k : Fin 6) (op : Op) :
    decode c .bU (c.params.unitCode k op :: rest) = .ok (unitInstr k op, rest) := by
  obtain ⟨-, -, -, -, -, -, hunits, -⟩ := hlegal
  have hread : decode c .bU (c.params.unitCode k op :: rest) =
      .ok (decodeUnit c.params (c.params.unitCode k op), rest) := rfl
  rw [hread, decodeUnit, c.params.unitRow_unitCode hunits]

/-- A word of the ACTION format is read by its two fields (30_encoding.md R50). -/
theorem decode_actionByte (o : Op) (u : Nibble) :
    decode c .action (actionByte o u :: rest) = .ok (decodeAction c.maxCamera o u, rest) := by
  obtain ⟨hlt, hop, hunit⟩ := actionByte_fields o u
  rw [decode, if_pos hlt, hop, hunit]

/-- The word of a command's row is read as that row, where it is well formed (30_encoding.md R50). -/
theorem decode_actionRow {r : Instr × Op × Nibble} (hr : r ∈ actionRows) (hwf : r.1.WellFormed c) :
    decode c .action (actionByte r.2.1 r.2.2 :: rest) = .ok (r.1, rest) := by
  rw [decode_actionByte, decodeAction_actionRow c.params c.maxCamera r hr hwf]

/-- The two nibbles of `H` are read back (30_encoding.md R43). -/
theorem decode_joinNibbles (h x : Nibble) :
    decode c .bPos2 (joinNibbles h x :: rest) = .ok (.bH h x, rest) := by
  rw [decode, hiNibble_joinNibbles, loNibble_joinNibbles]

theorem decode_frame (h x : Nibble) (u : Byte) :
    decode c .bFrame (0xD5 :: 0xAA :: joinNibbles h x :: u :: 0xAD :: rest) = .ok (.bFrame h x u, rest) := by
  rw [decode, if_pos ⟨rfl, rfl, rfl⟩, hiNibble_joinNibbles, loNibble_joinNibbles]

/-! At a marker position any other byte is read as the MISS row (30_encoding.md R43). -/

theorem decode_bP1Miss {b : Byte} (hb : b ≠ 0xD5) : decode c .bPos0 (b :: rest) = .ok (.bP1Miss b, rest) := by
  rw [decode, if_neg hb]

theorem decode_bP2Miss {b : Byte} (hb : b ≠ 0xAA) : decode c .bPos1 (b :: rest) = .ok (.bP2Miss b, rest) := by
  rw [decode, if_neg hb]

theorem decode_bP3Miss {b : Byte} (hb : b ≠ 0xAD) : decode c .bPos4 (b :: rest) = .ok (.bP3Miss b, rest) := by
  rw [decode, if_neg hb]

/-- A byte without an entry is read as B.U.OTHER (30_encoding.md R45). -/
theorem decode_bUOther {u : Byte} (hu : c.params.unitRow u = none) :
    decode c .bU (u :: rest) = .ok (.bUOther u, rest) := by
  rw [decode, decodeUnit, hu]

/-- A desynchronizing byte is read as A.DESYNC (30_encoding.md R35). -/
theorem decode_aDesync {b : Byte} (hb : IsDesyncByte b) : decode c .aFirst (b :: rest) = .ok (.aDesync b, rest) := by
  rw [decode, decodeFirst_desync b hb]

end

/-- Settles O1: the bytes of each row go back through the part of the decoder that reads its format. -/
theorem decodeOfEncodeIsTheInstruction : Obligations.DecodeOfEncodeIsTheInstruction := by
  intro c i rest hlegal hwf hbits
  cases i with
  | aPoll | aNull | aTimereq | aReady => rfl
  | aLen1 | aLen2 | aLen3 | aLen4 | aLen5 | aLen6 | aLen7 | aLen8 | aLen9 => rfl
  | aDesync b => exact decode_aDesync rest (of_decide_eq_true hwf)
  | aCollect b | aDiscard b => rfl
  | aAddress h d => exact decode_addressBytes rest h d
  | aFuncOn h | aFuncOff h | aFuncAllUnitsOff h | aFuncAllLightsOn h | aFuncDim h | aFuncBright h
  | aFuncAllLightsOff h | aFuncExtCode h | aFuncHailReq h | aFuncHailAck h | aFuncPresetDim1 h | aFuncPresetDim2 h
  | aFuncExtData h | aFuncStatusOn h | aFuncStatusOff h | aFuncStatusReq h =>
    exact decode_functionBytes rest hlegal _ h
  | bP1 | bP2 | bP3 => rfl
  | bP1Miss b => exact decode_bP1Miss rest (of_decide_eq_true hwf)
  | bP2Miss b => exact decode_bP2Miss rest (of_decide_eq_true hwf)
  | bP3Miss b => exact decode_bP3Miss rest (of_decide_eq_true hwf)
  | bH h x => exact decode_joinNibbles rest h x
  | bU u => rfl
  | bFrame h x u => exact decode_frame rest h x u
  | bU1On | bU1Off | bU2On | bU2Off | bU3On | bU3Off | bU4On | bU4Off | bU5On | bU5Off | bU6On | bU6Off =>
    exact decode_unitCode rest hlegal _ _
  | bUOther u => exact decode_bUOther rest (of_decide_eq_true hwf)
  | camOn1 => exact decode_actionRow rest (r := (.camOn1, .on, 0)) (by decide) hwf
  | camOn2 => exact decode_actionRow rest (r := (.camOn2, .on, 1)) (by decide) hwf
  | camOn3 => exact decode_actionRow rest (r := (.camOn3, .on, 2)) (by decide) hwf
  | camOn4 => exact decode_actionRow rest (r := (.camOn4, .on, 3)) (by decide) hwf
  | scanOn => exact decode_actionRow rest (r := (.scanOn, .on, 4)) (by decide) hwf
  | stepPrev => exact decode_actionRow rest (r := (.stepPrev, .on, 5)) (by decide) hwf
  | camOff1 => exact decode_actionRow rest (r := (.camOff1, .off, 0)) (by decide) hwf
  | camOff2 => exact decode_actionRow rest (r := (.camOff2, .off, 1)) (by decide) hwf
  | camOff3 => exact decode_actionRow rest (r := (.camOff3, .off, 2)) (by decide) hwf
  | camOff4 => exact decode_actionRow rest (r := (.camOff4, .off, 3)) (by decide) hwf
  | allOff => exact decode_actionRow rest (r := (.allOff, .off, 4)) (by decide) hwf
  | stepNext => exact decode_actionRow rest (r := (.stepNext, .off, 5)) (by decide) hwf
  | noRow o u =>
    have hnone : actionRow c.maxCamera (unitOfField u) o = none := of_decide_eq_true hwf
    exact (decode_actionByte rest o u).trans (by rw [decodeAction_noRow hnone])
  | tickA | tickB | resync | reset r | resume r => exact absurd rfl hbits

/-! ### What any bytes are read as -/

/-- What decoding `bytes` in the format `f` may answer: a well-formed row of the format that, with legal tables, the
bytes encode. -/
structure RowFor (c : Ctx) (f : Format) (bytes : List Byte) (i : Instr) : Prop where
  format : i.format = f
  wellFormed : i.WellFormed c
  encode : c.params.TablesLegal → encode c i = bytes

section
variable {c : Ctx}

theorem decodeFirst_rowFor (b : Byte) : RowFor c .aFirst [b] (decodeFirst b) := by
  obtain ⟨hformat, hwf, hbytes⟩ := decodeFirst_row c b
  exact ⟨hformat, hwf, fun _ => hbytes⟩

/-- A payload byte and its mask bit (30_encoding.md R37 to R39). -/
theorem decodePayload_rowFor {b m : Byte} (hm : m.toNat < 2) :
    RowFor c .aPayload [b, m] (decodePayload c.params (maskKind m 0) b) := by
  have hbit : maskKind m 0 = .address ∧ m = 0 ∨ maskKind m 0 = .function ∧ m = 1 := by
    revert m
    decide
  obtain ⟨hkind, rfl⟩ | ⟨hkind, rfl⟩ := hbit
  · rw [hkind]
    refine ⟨rfl, rfl, fun _ => ?_⟩
    change [joinNibbles (hiNibble b) (loNibble b), 0] = _
    rw [joinNibbles_nibbles]
  · obtain ⟨hformat, hwf, hbytes⟩ := funcInstr_row c (hiNibble b) (c.params.funcName (loNibble b))
    rw [hkind]
    refine ⟨hformat, hwf, fun ⟨_, _, _, hfunctions, _⟩ => hbytes.trans ?_⟩
    rw [functionBytes, c.params.funcCode_funcName hfunctions, joinNibbles_nibbles]

/-- At a marker position the marker has its own row and any other byte the MISS row (30_encoding.md R43). -/
theorem marker_rowFor {f : Format} {b marker : Byte} {hit miss : Instr} (hhit : RowFor c f [marker] hit)
    (hmiss : b ≠ marker → RowFor c f [b] miss) : RowFor c f [b] (if b = marker then hit else miss) := by
  split
  next hb => rwa [hb]
  next hb => exact hmiss hb

theorem posH_rowFor (b : Byte) : RowFor c .bPos2 [b] (.bH (hiNibble b) (loNibble b)) := by
  refine ⟨rfl, rfl, fun _ => ?_⟩
  change [joinNibbles (hiNibble b) (loNibble b)] = _
  rw [joinNibbles_nibbles]

theorem frame_rowFor (h u : Byte) :
    RowFor c .bFrame [0xD5, 0xAA, h, u, 0xAD] (.bFrame (hiNibble h) (loNibble h) u) := by
  refine ⟨rfl, rfl, fun _ => ?_⟩
  change [0xD5, 0xAA, joinNibbles (hiNibble h) (loNibble h), u, 0xAD] = _
  rw [joinNibbles_nibbles]

theorem decodeUnit_rowFor (u : Byte) : RowFor c .bU [u] (decodeUnit c.params u) := by
  rcases decodeUnit_cases c.params u with ⟨k, op, -, hcode, e⟩ | ⟨hnone, e⟩ <;> rw [e]
  · obtain ⟨hformat, hwf, hbytes⟩ := unitInstr_row c k op
    exact ⟨hformat, hwf, fun _ => by rw [hbytes, hcode]⟩
  · exact ⟨rfl, decide_eq_true hnone, fun _ => rfl⟩

theorem decodeAction_rowFor {b : Byte} (hb : b.toNat < 32) :
    RowFor c .action [b] (decodeAction c.maxCamera (opOfBit (b.getLsbD 4)) (loNibble b)) := by
  obtain ⟨hformat, hwf, hbytes⟩ := decodeAction_row c (opOfBit (b.getLsbD 4)) (loNibble b)
  exact ⟨hformat, hwf, fun _ => by rw [hbytes, actionByte_of_fields b hb]⟩

/-- Whatever decodes is a row for the bytes at the front, and the others are left over (30_encoding.md R50). -/
theorem rowFor_of_decode {f : Format} {bytes rest : List Byte} {i : Instr}
    (h : decode c f bytes = .ok (i, rest)) : ∃ front, bytes = front ++ rest ∧ RowFor c f front i := by
  unfold decode at h
  split at h
  next b _ => cases h; exact ⟨[b], rfl, decodeFirst_rowFor b⟩
  next b _ => cases h; exact ⟨[b], rfl, rfl, rfl, fun _ => rfl⟩
  next b _ => cases h; exact ⟨[b], rfl, rfl, rfl, fun _ => rfl⟩
  next b m _ =>
    split at h
    next hm => cases h; exact ⟨[b, m], rfl, decodePayload_rowFor hm⟩
    next => cases h
  next b _ =>
    cases h
    exact ⟨[b], rfl, marker_rowFor ⟨rfl, rfl, fun _ => rfl⟩ fun hb => ⟨rfl, decide_eq_true hb, fun _ => rfl⟩⟩
  next b _ =>
    cases h
    exact ⟨[b], rfl, marker_rowFor ⟨rfl, rfl, fun _ => rfl⟩ fun hb => ⟨rfl, decide_eq_true hb, fun _ => rfl⟩⟩
  next b _ => cases h; exact ⟨[b], rfl, posH_rowFor b⟩
  next b _ => cases h; exact ⟨[b], rfl, rfl, rfl, fun _ => rfl⟩
  next b _ =>
    cases h
    exact ⟨[b], rfl, marker_rowFor ⟨rfl, rfl, fun _ => rfl⟩ fun hb => ⟨rfl, decide_eq_true hb, fun _ => rfl⟩⟩
  next h' u _ _ =>
    split at h
    next hmarkers =>
      obtain ⟨rfl, rfl, rfl⟩ := hmarkers
      cases h
      exact ⟨_, rfl, frame_rowFor h' u⟩
    next => cases h
  next u _ => cases h; exact ⟨[u], rfl, decodeUnit_rowFor u⟩
  next b _ =>
    split at h
    next hb => cases h; exact ⟨[b], rfl, decodeAction_rowFor hb⟩
    next => cases h
  next => cases h
  next => cases h

end

/-- Settles O2: the row for the bytes at the front encodes to them. -/
theorem encodeOfDecodeIsTheBytes : Obligations.EncodeOfDecodeIsTheBytes := by
  intro c f bytes rest i hlegal h
  obtain ⟨front, rfl, hrow⟩ := rowFor_of_decode h
  exact ⟨hrow.format, hrow.wellFormed, by rw [hrow.encode hlegal]⟩

/-- The formats of the decoder positions are all of one byte, and none of them is refused (30_encoding.md R47). -/
theorem exists_decode_position (s : State) (b : Byte) : ∃ i, decode s.ctx s.position [b] = .ok (i, []) := by
  unfold State.position
  cases s.fixed.variant with
  | A => cases s.decA.aState <;> exact ⟨_, rfl⟩
  | B => cases s.decB.bIdx <;> exact ⟨_, rfl⟩

/-- Settles O4: what the byte decodes to is a row for it. -/
theorem everyReceivedByteHasARow : Obligations.EveryReceivedByteHasARow := by
  intro s b
  obtain ⟨i, hi⟩ := exists_decode_position s b
  obtain ⟨front, -, hrow⟩ := rowFor_of_decode hi
  exact ⟨i, hi, hrow.format, hrow.wellFormed⟩

/-- Settles O3: the twelve words, evaluated. -/
theorem opcodeTableWordsDecode : Obligations.OpcodeTableWordsDecode :=
  ⟨rfl, rfl, rfl, rfl, rfl, rfl, rfl, rfl, rfl, rfl, rfl, rfl⟩

end Sys2Proof.Machine
end

section
/-! SUPPORT. The proofs of the statements about Reset, Resume, ResyncStep and the events of the other variant
(70_reset_and_hazards.md, 60_exceptions.md, 43_timer.md section 3): where each exists, and what a launch leaves. -/

namespace Sys2Proof.Machine

/-! ### Where an event does not exist -/

section
variable {s : State}

theorem State.inVariant_of_ne {v : Variant} (h : s.fixed.variant ≠ v) (r : Result) :
    s.inVariant v r = .refused .notInThisVariant := if_neg h

theorem State.not_variantA (hB : s.fixed.variant = .B) : s.fixed.variant ≠ .A := by
  rw [hB]
  exact nofun

theorem State.not_variantB (hA : s.fixed.variant = .A) : s.fixed.variant ≠ .B := by
  rw [hA]
  exact nofun

/-- The rows of the formats of variant A, TICK.A and RESYNC do not exist in variant B (00_scope.md R2). -/
theorem exec_refused_variantB {i : Instr} (hB : s.fixed.variant = .B)
    (hi : i.format ∈ [Format.aFirst, .aDataCollect, .aDataDiscard, .aPayload] ∨ i = .tickA ∨ i = .resync) :
    exec i s = .refused .notInThisVariant := by
  have hne := State.not_variantA hB
  cases i with
  | aPoll | aNull | aTimereq | aReady => exact State.inVariant_of_ne hne _
  | aLen1 | aLen2 | aLen3 | aLen4 | aLen5 | aLen6 | aLen7 | aLen8 | aLen9 => exact State.inVariant_of_ne hne _
  | aDesync b | aCollect b | aDiscard b => exact State.inVariant_of_ne hne _
  | aAddress h d => exact State.inVariant_of_ne hne _
  | aFuncOn h | aFuncOff h | aFuncAllUnitsOff h | aFuncAllLightsOn h | aFuncDim h | aFuncBright h
  | aFuncAllLightsOff h | aFuncExtCode h | aFuncHailReq h | aFuncHailAck h | aFuncPresetDim1 h | aFuncPresetDim2 h
  | aFuncExtData h | aFuncStatusOn h | aFuncStatusOff h | aFuncStatusReq h => exact State.inVariant_of_ne hne _
  | tickA | resync => exact State.inVariant_of_ne hne _
  | _ => simp [Instr.format] at hi

/-- The rows of the formats of variant B and TICK.B do not exist in variant A (00_scope.md R2). -/
theorem exec_refused_variantA {i : Instr} (hA : s.fixed.variant = .A)
    (hi : i.format ∈ [Format.bPos0, .bPos1, .bPos2, .bPos3, .bPos4, .bFrame, .bU] ∨ i = .tickB) :
    exec i s = .refused .notInThisVariant := by
  have hne := State.not_variantB hA
  cases i with
  | bP1 | bP2 | bP3 => exact State.inVariant_of_ne hne _
  | bP1Miss b | bP2Miss b | bP3Miss b => exact State.inVariant_of_ne hne _
  | bH h x => exact State.inVariant_of_ne hne _
  | bU u => exact State.inVariant_of_ne hne _
  | bFrame h x u => exact State.inVariant_of_ne hne _
  | bU1On | bU1Off | bU2On | bU2Off | bU3On | bU3Off | bU4On | bU4Off | bU5On | bU5Off | bU6On | bU6Off =>
    exact State.inVariant_of_ne hne _
  | bUOther u => exact State.inVariant_of_ne hne _
  | tickB => exact State.inVariant_of_ne hne _
  | _ => simp [Instr.format] at hi

end

/-- Settles O50: the two halves, one per variant. -/
theorem eventsOfTheOtherVariantAreRefused : Obligations.EventsOfTheOtherVariantAreRefused :=
  fun _ _ => ⟨exec_refused_variantB, exec_refused_variantA⟩

/-! ### ResyncStep -/

/-- Where ResyncStep is enabled (43_timer.md R96). -/
theorem State.resyncEnabled_iff (s : State) :
    s.resyncEnabled = true ↔
      s.fixed.variant = .A ∧ s.mode = .run ∧ s.timer.wantResync = true ∧ s.decA.aState = .idle := by
  simp [State.resyncEnabled, and_assoc]

theorem exec_resync_of_enabled {s : State} (h : s.resyncEnabled = true) : exec .resync s = .next s.resyncStep :=
  (State.inVariant_of_eq (State.variant_of_resyncEnabled h) _).trans (if_pos h)

/-- In variant A the step does not occur where one of its three conditions fails (43_timer.md R96). -/
theorem exec_resync_of_not_enabled {s : State} (hA : s.fixed.variant = .A) (h : ¬ s.resyncEnabled = true) :
    exec .resync s = .refused .notEnabled :=
  (State.inVariant_of_eq hA _).trans (if_neg h)

/-- Settles O45: where it is enabled, RESYNC is the operation of 43_timer.md R96. -/
theorem resyncStepConsumesTheRequest : Obligations.ResyncStepConsumesTheRequest := by
  intro s hA hrun hwant hidle
  exact exec_resync_of_enabled (s.resyncEnabled_iff.2 ⟨hA, hrun, hwant, hidle⟩)

/-- ResyncStep is not enabled where one of its conditions fails (43_timer.md R96). -/
theorem State.not_resyncEnabled {s : State}
    (h : s.fixed.variant = .B ∨ s.mode = .menu ∨ s.timer.wantResync = false ∨ s.decA.aState ≠ .idle) :
    ¬ s.resyncEnabled = true := by
  rw [State.resyncEnabled_iff]
  rintro ⟨hA, hrun, hwant, hidle⟩
  simp [hA, hrun, hwant, hidle] at h

/-- Settles O51: each of the three conditions failing leaves RESYNC not enabled. -/
theorem resyncElsewhereIsRefused : Obligations.ResyncElsewhereIsRefused :=
  fun _ hA h => exec_resync_of_not_enabled hA (State.not_resyncEnabled (.inr h))

/-! ### The outcomes of Reset and Resume -/

/-- RESET launches the block with a legal record and refuses any other (10_state.md R5). -/
theorem exec_reset_cases (r : Record) (s : State) :
    (r.Legal ∧ exec (.reset r) s = .next (s.powerLoss.launch r)) ∨
    (¬ r.Legal ∧ exec (.reset r) s = .refused .illegalRecord) := by
  by_cases hr : r.Legal
  · exact .inl ⟨hr, exec_reset_of_legal hr s⟩
  · exact .inr ⟨hr, if_neg hr⟩

theorem State.mode_ne_menu {s : State} (hrun : s.mode = .run) : s.mode ≠ .menu := by
  rw [hrun]
  exact nofun

theorem State.mode_ne_run {s : State} (hmenu : s.mode = .menu) : s.mode ≠ .run := by
  rw [hmenu]
  exact nofun

/-- In Run of variant B there is nothing to resume (60_exceptions.md R111). -/
theorem exec_resume_of_run {r : Record} {s : State} (hB : s.fixed.variant = .B) (hrun : s.mode = .run) :
    exec (.resume r) s = .refused .notEnabled :=
  (State.inVariant_of_eq hB _).trans (if_neg (State.mode_ne_menu hrun))

theorem exec_resume_of_illegal {r : Record} {s : State} (hB : s.fixed.variant = .B) (hmenu : s.mode = .menu)
    (hr : ¬ r.Legal) : exec (.resume r) s = .refused .illegalRecord :=
  (State.inVariant_of_eq hB _).trans ((if_pos hmenu).trans (if_neg hr))

/-- RESUME exists in Menu of variant B, where it launches the block with a legal record and refuses any other
(60_exceptions.md R111; 10_state.md R5). -/
theorem exec_resume_cases (r : Record) (s : State) :
    (s.fixed.variant = .A ∧ exec (.resume r) s = .refused .notInThisVariant) ∨
    (s.fixed.variant = .B ∧ s.mode = .run ∧ exec (.resume r) s = .refused .notEnabled) ∨
    (s.fixed.variant = .B ∧ s.mode = .menu ∧ ¬ r.Legal ∧ exec (.resume r) s = .refused .illegalRecord) ∨
    (s.fixed.variant = .B ∧ s.mode = .menu ∧ r.Legal ∧ exec (.resume r) s = .next (s.launch r)) := by
  cases hv : s.fixed.variant with
  | A => exact .inl ⟨rfl, State.inVariant_of_ne (State.not_variantB hv) _⟩
  | B =>
    cases hmode : s.mode with
    | run => exact .inr (.inl ⟨rfl, rfl, exec_resume_of_run hv hmode⟩)
    | menu =>
      by_cases hr : r.Legal
      · exact .inr (.inr (.inr ⟨rfl, rfl, hr, exec_resume_of_menu hv hmode hr⟩))
      · exact .inr (.inr (.inl ⟨rfl, rfl, hr, exec_resume_of_illegal hv hmode hr⟩))

theorem exec_reset_next {r : Record} {s t : State} (h : exec (.reset r) s = .next t) :
    r.Legal ∧ t = s.powerLoss.launch r := by
  rcases exec_reset_cases r s with ⟨hr, e⟩ | ⟨-, e⟩ <;> rw [e] at h <;> cases h
  exact ⟨hr, rfl⟩

theorem exec_resume_next {r : Record} {s t : State} (h : exec (.resume r) s = .next t) :
    s.fixed.variant = .B ∧ s.mode = .menu ∧ r.Legal ∧ t = s.launch r := by
  rcases exec_resume_cases r s with ⟨-, e⟩ | ⟨-, -, e⟩ | ⟨-, -, -, e⟩ | ⟨hB, hmenu, hr, e⟩ <;> rw [e] at h <;>
    cases h
  exact ⟨hB, hmenu, hr, rfl⟩

/-- Settles O48: the outcomes of RESET and RESUME that start no execution. -/
theorem launchesOutsideTheSpecAreRefused : Obligations.LaunchesOutsideTheSpecAreRefused :=
  ⟨fun _ _ hr => if_neg hr, fun _ _ hB hmenu hr => exec_resume_of_illegal hB hmenu hr,
    fun _ _ hA => State.inVariant_of_ne (State.not_variantB hA) _, fun _ _ hB hrun => exec_resume_of_run hB hrun⟩

/-! ### What a launch leaves -/

section
variable {r : Record}

/-- The camera a launch selects (70_reset_and_hazards.md R119). -/
theorem initialCamera_currentCamera (hr : r.Legal) :
    (initialCamera r).currentCamera.toNat = if r.idleMode = .priorityCamera then 1 else r.selectedCamera := by
  obtain ⟨hsel, -, hfour, -⟩ := hr
  have hselected : (BitVec.ofNat 3 r.selectedCamera).toNat = r.selectedCamera := by
    rw [BitVec.toNat_ofNat]
    omega
  unfold initialCamera Camera.initIdlePolicy
  cases r.idleMode with
  | priorityCamera => rfl
  | scan => exact hselected
  | none => exact hselected

/-- A launch scans exactly under the policy Scan, from counts of 0 (70_reset_and_hazards.md R119). -/
theorem initialCamera_eq (r : Record) :
    initialCamera r = { currentCamera := (initialCamera r).currentCamera, scanActive := r.idleMode = .scan,
                        scanCycleCounter := 0, inactivityCounter := 0 } := by
  unfold initialCamera Camera.initIdlePolicy
  cases r.idleMode <;> rfl

/-- The numbers of a legal record fit the registers that latch them (10_state.md R6). -/
theorem State.launch_latched_numbers (hr : r.Legal) (s : State) :
    (s.launch r).latched.maxCamera.toNat = r.maxCamera ∧
      (s.launch r).latched.scanPeriodMultiplier.val = r.scanPeriodMultiplier := by
  obtain ⟨-, -, hfour, hfive⟩ := hr
  rw [State.launch_latched]
  refine ⟨?_, Nat.mod_eq_of_lt (by omega)⟩
  rw [BitVec.toNat_ofNat]
  omega

end

/-- Settles O46: RESET is the launch sequence on the state a power loss leaves. -/
theorem resetInitialisesTheBlock : Obligations.ResetInitialisesTheBlock := by
  intro s r hr
  obtain ⟨hmax, hmultiplier⟩ := State.launch_latched_numbers hr s.powerLoss
  exact ⟨_, _, exec_reset_of_legal hr s, initialCamera_currentCamera hr, rfl, hmax, hmultiplier, rfl, rfl,
    initialCamera_eq r, rfl, rfl, rfl, rfl, rfl, rfl, rfl, rfl, rfl, rfl, rfl, rfl⟩

/-- Settles O47: RESUME in Menu is the launch sequence on the state as it stands. -/
theorem resumeRelaunchesTheBlock : Obligations.ResumeRelaunchesTheBlock := by
  intro s r hB hmenu hr
  obtain ⟨hmax, hmultiplier⟩ := State.launch_latched_numbers hr s
  exact ⟨_, _, exec_resume_of_menu hB hmenu hr, initialCamera_currentCamera hr, rfl, hmax, hmultiplier, rfl, rfl,
    initialCamera_eq r, rfl, rfl, rfl, rfl, rfl, rfl, rfl⟩

/-! ### The reset state -/

theorem State.resetRecord_legal : State.resetRecord.Legal := by decide

/-- Settles O49: the record is legal, and the launch writes the values State.reset names. -/
theorem resetStateIsWhatResetLeaves : Obligations.ResetStateIsWhatResetLeaves :=
  exec_reset_of_legal State.resetRecord_legal State.reset

/-- Settles O52: the reset state is what a launch with a legal record leaves. -/
theorem resetMeetsTheInvariants : Obligations.ResetMeetsTheInvariants := by
  have hlaunch : (State.reset.powerLoss.launch State.resetRecord).Inv :=
    State.launch_inv defaultParams_legal State.reset_memory_wf State.resetRecord_legal
  exact hlaunch

end Sys2Proof.Machine
end

section
/-! SUPPORT. The proofs of the statements about every instruction and every step (10_state.md section 6, 20_memory.md
section 5, 30_encoding.md section 4, 60_exceptions.md): what a row sends, reports and keeps, what a step takes from its
input, and the statements. -/

namespace Sys2Proof.Machine

/-! ### What a row sends, reports and keeps -/

/-- The bytes a row transmits (30_encoding.md R46). -/
def sentBy (p : Params) : Instr → List Byte
  | .aPoll => [0xC3]
  | .aNull => [0x00]
  | .aTimereq => [0x9B, 0x00, 0x00, 0x00, 0x00, 0x00, 0x00]
  | .resync => p.resyncTx
  | _ => []

/-- The reports a row makes (60_exceptions.md R100). -/
def reportedBy : Instr → List Report
  | .aDesync b => [{ condition := .desync, info := b }]
  | _ => []

/-- Whether a firing is pending after a row: only a TickStep clears it (60_exceptions.md R105). -/
def pendingAfter (s : State) : Instr → Bool
  | .tickA | .tickB => false
  | _ => s.timer.tickPending

/-- What an instruction that launches nothing leaves of the variant and the tables, the configuration and
the mode, and what it adds to the three traces; `pending` is whether a firing is pending after it. -/
structure RunFrame (sent : List Byte) (reports : List Report) (pending : Bool) (s t : State) : Prop where
  fixed : t.fixed = s.fixed
  store : t.store = s.store
  latched : t.latched = s.latched
  mode : t.mode = s.mode
  pending : t.timer.tickPending = pending
  sent : t.out.txTrace = s.out.txTrace ++ sent
  reports : t.out.reportTrace = s.out.reportTrace ++ reports
  calls : ∃ calls : List Slot, t.out.odTrace = s.out.odTrace ++ calls ∧
    t.out.muxSlot = calls.getLast?.getD s.out.muxSlot

/-- Nothing transmitted, nothing reported, and a pending firing still pending. -/
abbrev SilentFrame (s t : State) : Prop := RunFrame [] [] s.timer.tickPending s t

section
variable {s t u : State}

theorem SilentFrame.refl (s : State) : SilentFrame s s where
  fixed := rfl
  store := rfl
  latched := rfl
  mode := rfl
  pending := rfl
  sent := (List.append_nil _).symm
  reports := (List.append_nil _).symm
  calls := ⟨[], (List.append_nil _).symm, rfl⟩

theorem SilentFrame.trans (h : SilentFrame s t) (k : SilentFrame t u) : SilentFrame s u := by
  obtain ⟨a, hod, hmux⟩ := h.calls
  obtain ⟨b, kod, kmux⟩ := k.calls
  exact {
    fixed := k.fixed.trans h.fixed
    store := k.store.trans h.store
    latched := k.latched.trans h.latched
    mode := k.mode.trans h.mode
    pending := k.pending.trans h.pending
    sent := by rw [k.sent, h.sent, List.append_nil]
    reports := by rw [k.reports, h.reports, List.append_nil]
    calls := ⟨a ++ b, by rw [kod, hod, List.append_assoc], by rw [kmux, hmux, lastCall_append]⟩ }

/-- An event of the interpreter is silent (42_interpreter.md). -/
theorem EventFrame.silent (h : EventFrame s t) : SilentFrame s t := by
  obtain ⟨calls, conds, e⟩ := h
  rw [e]
  exact { SilentFrame.refl s with calls := ⟨calls, rfl, rfl⟩ }

theorem State.tx_frame (b : Byte) (s : State) : RunFrame [b] [] s.timer.tickPending s (s.tx b) :=
  { SilentFrame.refl s with sent := rfl }

theorem State.txAll_frame (bs : List Byte) (s : State) : RunFrame bs [] s.timer.tickPending s (s.txAll bs) :=
  { SilentFrame.refl s with sent := rfl }

theorem State.resyncStep_frame (s : State) :
    RunFrame s.fixed.params.resyncTx [] s.timer.tickPending s s.resyncStep :=
  { SilentFrame.refl s with sent := rfl }

/-- A desynchronization is the one condition reported (40_decoder_a.md R57). -/
theorem State.desync_frame (b : Byte) (d : Nat) (s : State) :
    RunFrame [] [{ condition := .desync, info := b }] s.timer.tickPending s (s.desync b d) :=
  { SilentFrame.refl s with reports := rfl }

theorem State.startFrame_frame (n : BitVec 4) (s : State) : SilentFrame s (s.startFrame n) :=
  { SilentFrame.refl s with }

theorem State.discard_frame (s : State) : SilentFrame s s.discard := { SilentFrame.refl s with }

/-- A byte inside a frame is silent, the events of the frame included (40_decoder_a.md R58, R59). -/
theorem State.collect_frame {b : Byte} (h : s.collect b = .next t) : SilentFrame s t := by
  have hstore : SilentFrame s (s.storeByte b) := { SilentFrame.refl s with }
  rcases s.collect_cases b with ⟨-, e⟩ | ⟨-, -, e⟩ | ⟨-, -, e⟩ <;> rw [e] at h <;> cases h
  · exact hstore
  · exact { hstore.trans (State.interpAll_frame _ _).silent with }

/-- A byte in variant B is silent (41_decoder_b.md R64). -/
theorem State.decodeB_frame (b : Byte) (s : State) : SilentFrame s (s.decodeB b) := by
  rcases s.decodeB_cases b with e | ⟨k, e⟩ | e | e | e <;> rw [e]
  · exact { SilentFrame.refl s with }
  · exact { SilentFrame.refl s with }
  · exact { SilentFrame.refl s with }
  · exact { SilentFrame.refl s with }
  · exact { (s.emitB_frame _ _).silent with }

theorem State.decodeAllB_frame (bs : List Byte) (s : State) : SilentFrame s (s.decodeAllB bs) := by
  induction bs generalizing s with
  | nil => exact SilentFrame.refl s
  | cons b bs ih => exact (s.decodeB_frame b).trans (ih _)

/-- Each template position is silent, whatever the position the decoder was in (41_decoder_b.md R65, R66, R69). -/
theorem State.posP1_frame (b : Byte) (s : State) : SilentFrame s (s.posP1 b) := by
  unfold State.posP1
  split <;> exact { SilentFrame.refl s with }

theorem State.posP2_frame (b : Byte) (s : State) : SilentFrame s (s.posP2 b) := by
  unfold State.posP2
  split <;> exact { SilentFrame.refl s with }

theorem State.posP3_frame (b : Byte) (s : State) : SilentFrame s (s.posP3 b) := by
  unfold State.posP3
  split
  · exact { (s.emitB_frame _ _).silent with }
  · exact { SilentFrame.refl s with }

/-- TickStep of variant A transmits and reports nothing, and clears the pending firing (43_timer.md R91). -/
theorem State.tickStepA_frame (hA : s.fixed.variant = .A) : RunFrame [] [] false s s.tickStepA := by
  have hscan := s.clearPending.scanOrIdleTick_frame.event.silent
  have hcleared : RunFrame [] [] false s s.clearPending.scanOrIdleTick := { hscan with }
  rw [s.tickStepA_eq hA]
  rcases s.clearPending.scanOrIdleTick.resyncTick_cases with ⟨-, e⟩ | ⟨-, e⟩ <;> rw [e] <;>
    exact { hcleared with }

/-- TickStep of variant B transmits and reports nothing, and clears the pending firing (43_timer.md R92). -/
theorem State.tickStepB_frame (hB : s.fixed.variant = .B) : RunFrame [] [] false s s.tickStepB := by
  rcases s.tickStepB_cases hB with ⟨-, e⟩ | ⟨-, e⟩ <;> rw [e]
  · exact { SilentFrame.refl s with pending := rfl }
  · exact { (State.scanOrIdleTick_frame _).event.silent with }

theorem State.variant_of_inVariant {v : Variant} {r : Result} (h : s.inVariant v r = .next t) :
    s.fixed.variant = v := by
  by_contra hne
  rw [State.inVariant_of_ne hne] at h
  cases h

/-- Every instruction but RESET and RESUME, that answers a next state: what it sends, reports and keeps. -/
theorem exec_frame {i : Instr} (h : exec i s = .next t) (hreset : ∀ r, i ≠ .reset r) (hresume : ∀ r, i ≠ .resume r) :
    RunFrame (sentBy s.fixed.params i) (reportedBy i) (pendingAfter s i) s t := by
  cases i with
  | aPoll | aNull => cases State.next_of_inVariant h; exact s.tx_frame _
  | aTimereq => cases State.next_of_inVariant h; exact s.txAll_frame _
  | aReady => cases State.next_of_inVariant h; exact SilentFrame.refl s
  | aLen1 | aLen2 | aLen3 | aLen4 | aLen5 | aLen6 | aLen7 | aLen8 | aLen9 =>
    cases State.next_of_inVariant h; exact s.startFrame_frame _
  | aDesync b => cases State.next_of_inVariant h; exact s.desync_frame _ _
  | aCollect b => exact State.collect_frame (State.next_of_inVariant h)
  | aDiscard b => cases State.next_of_inVariant h; exact s.discard_frame
  | aAddress n d => cases State.next_of_inVariant h; exact (s.addressA_frame _ _).silent
  | aFuncOn n | aFuncOff n | aFuncAllUnitsOff n | aFuncAllLightsOn n | aFuncDim n | aFuncBright n
  | aFuncAllLightsOff n | aFuncExtCode n | aFuncHailReq n | aFuncHailAck n | aFuncPresetDim1 n | aFuncPresetDim2 n
  | aFuncExtData n | aFuncStatusOn n | aFuncStatusOff n | aFuncStatusReq n =>
    cases State.next_of_inVariant h; exact (s.functionA_frame _ _).silent
  | bP1 | bP1Miss b => cases State.next_of_inVariant h; exact s.posP1_frame _
  | bP2 | bP2Miss b => cases State.next_of_inVariant h; exact s.posP2_frame _
  | bH n x => cases State.next_of_inVariant h; exact { SilentFrame.refl s with }
  | bU u => cases State.next_of_inVariant h; exact { SilentFrame.refl s with }
  | bP3 | bP3Miss b => cases State.next_of_inVariant h; exact s.posP3_frame _
  | bFrame n x u => cases State.next_of_inVariant h; exact s.decodeAllB_frame _
  | bU1On | bU1Off | bU2On | bU2Off | bU3On | bU3Off | bU4On | bU4Off | bU5On | bU5Off | bU6On | bU6Off
  | bUOther u => cases State.next_of_inVariant h; exact (s.eventRow_frame _ _).silent
  | camOn1 | camOn2 | camOn3 | camOn4 | scanOn | stepPrev | camOff1 | camOff2 | camOff3 | camOff4 | allOff
  | stepNext => cases h; exact (s.action_frame _ _).silent
  | noRow o n => cases h; exact (s.note_frame _).silent
  | tickA =>
    have hA := State.variant_of_inVariant h
    cases State.next_of_inVariant h; exact State.tickStepA_frame hA
  | tickB =>
    have hB := State.variant_of_inVariant h
    cases State.next_of_inVariant h; exact State.tickStepB_frame hB
  | resync =>
    have hstep := State.next_of_inVariant h
    split at hstep <;> cases hstep
    exact s.resyncStep_frame
  | reset r => exact absurd rfl (hreset r)
  | resume r => exact absurd rfl (hresume r)

/-! ### The statements about every instruction -/

/-- Settles O56: but for the two launches by the frame of the instruction; a launch leaves the record. -/
theorem configurationIsLatchedAtLaunchOnly : Obligations.ConfigurationIsLatchedAtLaunchOnly := by
  intro s t i h
  by_cases hreset : ∃ r, i = .reset r
  · obtain ⟨r, rfl⟩ := hreset
    obtain ⟨-, rfl⟩ := exec_reset_next h
    exact ⟨rfl, fun hne => absurd rfl (hne r)⟩
  by_cases hresume : ∃ r, i = .resume r
  · obtain ⟨r, rfl⟩ := hresume
    obtain ⟨-, -, -, rfl⟩ := exec_resume_next h
    exact ⟨rfl, fun _ hne => absurd rfl (hne r)⟩
  have hframe := exec_frame h (not_exists.1 hreset) (not_exists.1 hresume)
  exact ⟨hframe.store, fun _ _ => hframe.latched⟩

/-- Settles O58: by the frame of the instruction; RESUME makes the one call of the launch. -/
theorem muxSlotIsTheLastCall : Obligations.MuxSlotIsTheLastCall := by
  intro s t i hreset h
  by_cases hresume : ∃ r, i = .resume r
  · obtain ⟨r, rfl⟩ := hresume
    obtain ⟨-, -, -, rfl⟩ := exec_resume_next h
    exact ⟨[(initialCamera r).currentCamera], rfl, rfl⟩
  exact (exec_frame h hreset (not_exists.1 hresume)).calls

theorem reportedBy_eq_nil {i : Instr} (hi : ∀ b, i ≠ .aDesync b) : reportedBy i = [] := by
  cases i with
  | aDesync b => exact absurd rfl (hi b)
  | _ => rfl

/-- Settles O59: A.DESYNC is the one row with a report, and it transmits nothing; a launch by RESUME reports nothing. -/
theorem onlyDesyncIsReported : Obligations.OnlyDesyncIsReported := by
  intro s t i hreset h
  by_cases hresume : ∃ r, i = .resume r
  · obtain ⟨r, rfl⟩ := hresume
    obtain ⟨-, -, -, rfl⟩ := exec_resume_next h
    exact ⟨nofun, fun _ => rfl⟩
  have hframe := exec_frame h hreset (not_exists.1 hresume)
  refine ⟨?_, fun hi => ?_⟩
  · rintro b rfl
    exact ⟨hframe.reports, hframe.sent.trans (List.append_nil _)⟩
  · rw [hframe.reports, reportedBy_eq_nil hi, List.append_nil]

/-- A row that transmits is one of the four, and runs in variant A only (30_encoding.md R46). -/
theorem sentBy_cases {i : Instr} (h : exec i s = .next t) :
    sentBy s.fixed.params i = [] ∨ (s.fixed.variant = .A ∧
      ((i = .aPoll ∧ sentBy s.fixed.params i = [0xC3]) ∨ (i = .aNull ∧ sentBy s.fixed.params i = [0x00]) ∨
       (i = .aTimereq ∧ sentBy s.fixed.params i = [0x9B, 0x00, 0x00, 0x00, 0x00, 0x00, 0x00]) ∨
       (i = .resync ∧ sentBy s.fixed.params i = s.fixed.params.resyncTx))) := by
  cases i with
  | aPoll => exact .inr ⟨State.variant_of_inVariant h, .inl ⟨rfl, rfl⟩⟩
  | aNull => exact .inr ⟨State.variant_of_inVariant h, .inr (.inl ⟨rfl, rfl⟩)⟩
  | aTimereq => exact .inr ⟨State.variant_of_inVariant h, .inr (.inr (.inl ⟨rfl, rfl⟩))⟩
  | resync => exact .inr ⟨State.variant_of_inVariant h, .inr (.inr (.inr ⟨rfl, rfl⟩))⟩
  | _ => exact .inl rfl

/-- RESET empties the transmit trace, RESUME adds nothing, and any other instruction adds what its row sends. -/
theorem exec_sent {i : Instr} (h : exec i s = .next t) :
    ((∃ r, i = .reset r) ∧ t.out.txTrace = []) ∨ t.out.txTrace = s.out.txTrace ++ sentBy s.fixed.params i := by
  by_cases hreset : ∃ r, i = .reset r
  · obtain ⟨r, rfl⟩ := hreset
    obtain ⟨-, rfl⟩ := exec_reset_next h
    exact .inl ⟨⟨r, rfl⟩, rfl⟩
  by_cases hresume : ∃ r, i = .resume r
  · obtain ⟨r, rfl⟩ := hresume
    obtain ⟨-, -, -, rfl⟩ := exec_resume_next h
    exact .inr (List.append_nil _).symm
  exact .inr (exec_frame h (not_exists.1 hreset) (not_exists.1 hresume)).sent

/-- No instruction changes the variant or the tables (00_scope.md R2). -/
theorem exec_fixed {i : Instr} (h : exec i s = .next t) : t.fixed = s.fixed := by
  by_cases hreset : ∃ r, i = .reset r
  · obtain ⟨r, rfl⟩ := hreset
    obtain ⟨-, rfl⟩ := exec_reset_next h
    rfl
  by_cases hresume : ∃ r, i = .resume r
  · obtain ⟨r, rfl⟩ := hresume
    obtain ⟨-, -, -, rfl⟩ := exec_resume_next h
    rfl
  exact (exec_frame h (not_exists.1 hreset) (not_exists.1 hresume)).fixed

/-! ### What a step takes from its input -/

/-- Between a step's state and its instruction's, on either side: the same variant and tables, and
nothing transmitted. -/
def SameSide (s t : State) : Prop := t.fixed = s.fixed ∧ t.out.txTrace = s.out.txTrace

theorem State.timerFires_sameSide (s : State) : SameSide s s.timerFires := by
  rcases s.timerFires_cases with ⟨-, e⟩ | ⟨-, e⟩ <;> rw [e] <;> exact ⟨rfl, rfl⟩

theorem State.enterMain_sameSide (fires : Bool) (s : State) : SameSide s (s.enterMain fires) := by
  rw [State.enterMain_eq]
  exact ⟨rfl, rfl⟩

/-- What is fetched in `s`: in the main context a row that a byte has or RESYNC, elsewhere a tick, a Resume or, of a
power cycle, a Reset; a stop is an act outside the contract. -/
def Fetched.From (s : State) : Fetched → Prop
  | .main i u => (i.format ≠ .event ∨ i = .resync) ∧ SameSide s u
  | .other i u => (∀ r, i = .reset r → s.tickDue = false ∧ ∃ rest, s.stimulus = .powerUp :: rest) ∧ SameSide s u
  | .quiet u => SameSide s u
  | .stop r => r = .outsideContract

theorem State.position_ne_event (s : State) : s.position ≠ .event := by
  unfold State.position
  cases s.fixed.variant with
  | A => cases s.decA.aState <;> exact nofun
  | B => cases s.decB.bIdx <;> exact nofun

/-- What a byte decodes to in the decoder position is no event without bits. -/
theorem format_ne_event {i : Instr} {b : Byte} (h : decode s.ctx s.position [b] = .ok (i, [])) :
    i.format ≠ .event := by
  obtain ⟨_, -, hrow⟩ := rowFor_of_decode h
  rw [hrow.format]
  exact s.position_ne_event

theorem State.fetchByte_from (b : Byte) (fires : Bool) (rest : List Input) (s : State) :
    (State.fetchByte b fires { s with stimulus := rest }).From s := by
  obtain ⟨i, hi⟩ := exists_decode_position { s with stimulus := rest } b
  have hbyte : State.fetchByte b fires { s with stimulus := rest } =
      .main i (State.enterMain fires { s with stimulus := rest }) := by rw [State.fetchByte, hi]
  rw [hbyte]
  exact ⟨.inl (format_ne_event hi), State.enterMain_sameSide fires { s with stimulus := rest }⟩

theorem Fetched.from_ite {p : Prop} [Decidable p] {f g : Fetched} (hf : f.From s) (hg : g.From s) :
    (if p then f else g).From s := by
  split
  · exact hf
  · exact hg

theorem State.take_from {x : Input} {rest : List Input} (hdue : s.tickDue = false) (hstim : s.stimulus = x :: rest) :
    (State.take x { s with stimulus := rest }).From s := by
  have hsame : SameSide s { s with stimulus := rest } := ⟨rfl, rfl⟩
  have hfires : SameSide s (State.timerFires { s with stimulus := rest }) := State.timerFires_sameSide _
  cases x with
  | rx b fires => exact Fetched.from_ite (State.fetchByte_from b fires rest s) hsame
  | timerFires => exact hfires
  | receiveLoop fires =>
    have hquiet : SameSide s (if fires then State.timerFires { s with stimulus := rest }
        else { s with stimulus := rest }) := by
      split
      · exact hfires
      · exact hsame
    exact Fetched.from_ite ⟨.inr rfl, State.enterMain_sameSide fires { s with stimulus := rest }⟩ hquiet
  | enterMenu => exact hsame
  | menuSave r => exact Fetched.from_ite hsame rfl
  | menuDrive c => exact Fetched.from_ite hsame rfl
  | resume => exact ⟨nofun, hsame⟩
  | powerUp => exact ⟨fun _ _ => ⟨hdue, rest, hstim⟩, hsame⟩

/-- With no tick due and no input waiting there is nothing to do (20_memory.md R26). -/
theorem fetch_of_no_input (hdue : s.tickDue = false) (hstim : s.stimulus = []) : s.fetch = .quiet s := by
  rw [State.fetch, hdue, hstim]
  rfl

theorem State.fetch_from (s : State) : s.fetch.From s := by
  cases hdue : s.tickDue with
  | true =>
    have hfetch : s.fetch = .other (tickInstr s.fixed.variant) s := if_pos hdue
    rw [hfetch]
    cases s.fixed.variant <;> exact ⟨nofun, rfl, rfl⟩
  | false =>
    cases hstim : s.stimulus with
    | nil =>
      rw [fetch_of_no_input hdue hstim]
      exact ⟨rfl, rfl⟩
    | cons x rest =>
      rw [fetch_of_input hdue hstim]
      exact State.take_from hdue hstim

/-- The main context is left by unmasking the event, where the instruction answers a next state. -/
theorem leaveMain_next {r : Result} (h : leaveMain r = .next t) : ∃ u, r = .next u ∧ t = u.unmask := by
  cases r with
  | next u => cases h; exact ⟨u, rfl, rfl⟩
  | fault f => cases h
  | refused f => cases h

/-- A step is an instruction between two states of the same side, or an act that runs none. -/
theorem step_cases (h : step s = .next t) :
    SameSide s t ∨ ∃ i u v, exec i u = .next v ∧ SameSide s u ∧ SameSide v t ∧
      ∀ r, i = .reset r → s.tickDue = false ∧ ∃ rest, s.stimulus = .powerUp :: rest := by
  have hfrom := s.fetch_from
  unfold step at h
  cases hfetch : s.fetch with
  | main i u =>
    rw [hfetch] at h hfrom
    obtain ⟨hi, hside⟩ := hfrom
    obtain ⟨v, hexec, rfl⟩ := leaveMain_next h
    refine .inr ⟨i, u, v, hexec, hside, ⟨rfl, rfl⟩, ?_⟩
    rintro r rfl
    rcases hi with hformat | hresync
    · exact absurd rfl hformat
    · cases hresync
  | other i u =>
    rw [hfetch] at h hfrom
    obtain ⟨hreset, hside⟩ := hfrom
    exact .inr ⟨i, u, t, h, hside, ⟨rfl, rfl⟩, hreset⟩
  | quiet u =>
    rw [hfetch] at h hfrom
    cases h
    exact .inl hfrom
  | stop r =>
    rw [hfetch] at h
    cases h

/-! ### The statements about every step -/

/-- Settles O55: neither the input nor the instruction of a step changes the variant or the tables. -/
theorem instanceNeverChanges : Obligations.InstanceNeverChanges := by
  intro s t h
  rcases step_cases h with ⟨hfixed, -⟩ | ⟨i, u, v, hexec, ⟨hbefore, -⟩, ⟨hafter, -⟩, -⟩
  · exact hfixed
  · exact hafter.trans ((exec_fixed hexec).trans hbefore)

/-- Settles O57: the first part by the row, and a step transmits what its instruction does. -/
theorem onlyTheListedBytesAreTransmitted : Obligations.OnlyTheListedBytesAreTransmitted := by
  refine ⟨fun s t i h => (exec_sent h).imp_right fun hsent => ⟨_, hsent, sentBy_cases h⟩, fun s t h => ?_⟩
  rcases step_cases h with ⟨-, hsame⟩ | ⟨i, u, v, hexec, ⟨hfixed, hbefore⟩, ⟨-, hafter⟩, hreset⟩
  · exact .inr ⟨[], by rw [hsame, List.append_nil], .inl rfl⟩
  rcases exec_sent hexec with ⟨⟨r, hi⟩, hempty⟩ | hsent
  · obtain ⟨hdue, hpower⟩ := hreset r hi
    exact .inl ⟨hdue, hpower, hafter.trans hempty⟩
  · have hrow := sentBy_cases hexec
    rw [hfixed] at hsent hrow
    refine .inr ⟨_, by rw [hafter, hsent, hbefore], hrow.imp_right fun ⟨hA, hlisted⟩ => ⟨hA, ?_⟩⟩
    rcases hlisted with ⟨-, e⟩ | ⟨-, e⟩ | ⟨-, e⟩ | ⟨-, e⟩ <;> rw [e] <;> simp

/-- An input whose step answers a next state is one the surroundings may give: the others stop by name. -/
theorem mayReceive_of_step {x : Input} {rest : List Input} (hdue : s.tickDue = false)
    (hstim : s.stimulus = x :: rest) (h : step s = .next t) : s.MayReceive x := by
  have hfetch := fetch_of_input hdue hstim
  cases x with
  | rx b fires | timerFires | receiveLoop fires | enterMenu => trivial
  | menuSave r | menuDrive c =>
    by_contra hnot
    rw [step, hfetch.trans (if_neg hnot)] at h
    cases h
  | resume =>
    rw [step_of_other hfetch] at h
    obtain ⟨hB, hmenu, hr, -⟩ := exec_resume_next h
    exact ⟨hmenu, hB, hr⟩
  | powerUp =>
    rw [step_of_other hfetch] at h
    obtain ⟨hr, -⟩ := exec_reset_next h
    exact hr

/-- Settles O53: a due tick and an input the surroundings may give keep the invariants, and no other step answers a
next state. -/
theorem stepKeepsTheInvariants : Obligations.StepKeepsTheInvariants := by
  intro s t hinv h
  have hkept : ∃ u, step s = .next u ∧ u.Inv := by
    cases hdue : s.tickDue with
    | true => exact step_tick_inv hinv hdue
    | false =>
      cases hstim : s.stimulus with
      | nil =>
        refine noStepStops s hinv fun x rest hcons => ?_
        rw [hstim] at hcons
        cases hcons
      | cons x rest => exact step_input_inv hinv hdue hstim (mayReceive_of_step hdue hstim h)
  obtain ⟨u, hu, huinv⟩ := hkept
  rw [hu] at h
  cases h
  exact huinv

theorem State.inVariant_ne_undecodable {v : Variant} {r : Result} (h : r ≠ .refused .undecodable) :
    s.inVariant v r ≠ .refused .undecodable := by
  unfold State.inVariant
  split
  · exact h
  · exact nofun

/-- An instruction stops for its variant, its enabling, its record or its index, never for want of a row. -/
theorem exec_ne_undecodable (i : Instr) (s : State) : exec i s ≠ .refused .undecodable := by
  cases i with
  | aCollect b =>
    refine State.inVariant_ne_undecodable ?_
    rcases s.collect_cases b with ⟨-, e⟩ | ⟨-, -, e⟩ | ⟨-, -, e⟩ <;> rw [e] <;> exact nofun
  | camOn1 | camOn2 | camOn3 | camOn4 | scanOn | stepPrev | camOff1 | camOff2 | camOff3 | camOff4 | allOff
  | stepNext | noRow o u => exact nofun
  | resync =>
    refine State.inVariant_ne_undecodable ?_
    split <;> exact nofun
  | reset r => rcases exec_reset_cases r s with ⟨-, e⟩ | ⟨-, e⟩ <;> rw [e] <;> exact nofun
  | resume r =>
    rcases exec_resume_cases r s with ⟨-, e⟩ | ⟨-, -, e⟩ | ⟨-, -, -, e⟩ | ⟨-, -, -, e⟩ <;> rw [e] <;> exact nofun
  | _ => exact State.inVariant_ne_undecodable nofun

theorem step_ne_undecodable (s : State) : step s ≠ .refused .undecodable := by
  have hfrom := s.fetch_from
  unfold step
  cases hfetch : s.fetch with
  | main i u =>
    have hrow := exec_ne_undecodable i u
    change leaveMain (exec i u) ≠ _
    cases hexec : exec i u with
    | refused r =>
      rw [hexec] at hrow
      exact fun h => hrow (by cases h; rfl)
    | _ => exact nofun
  | other i u => exact exec_ne_undecodable i u
  | quiet u => exact nofun
  | stop r =>
    rw [hfetch] at hfrom
    cases hfrom
    exact nofun

/-- Settles O60: the two acts of the menu fall outside their conditions, and every byte has a row. -/
theorem actsOutsideTheContractAreRefused : Obligations.ActsOutsideTheContractAreRefused := by
  refine ⟨fun s rest hdue => ⟨fun r hstim hrun => ?_, fun c hstim hout => ?_⟩, step_ne_undecodable⟩
  · rw [step, (fetch_of_input hdue hstim).trans (if_neg (State.mode_ne_menu hrun))]
  · have hnot : ¬ (s.mode = .menu ∧ s.fixed.variant = .B ∧ c.toNat ≤ 4) := by
      rintro ⟨hmenu, hB, hfour⟩
      simp only [hmenu, hB, reduceCtorEq, false_or] at hout
      omega
    rw [step, (fetch_of_input hdue hstim).trans (if_neg hnot)]

end

/-! ### What a single step runs -/

/-- Settles O5: the byte's row, in the main context. -/
theorem stepRunsTheDecodedInstruction : Obligations.StepRunsTheDecodedInstruction :=
  fun _ _ _ _ _ hrun hdue hstim hdec => step_of_rx hrun hdue hstim hdec

/-- Where it is enabled, the receive loop runs RESYNC in the main context (43_timer.md R96). -/
theorem step_of_receiveLoop {s : State} {fires : Bool} {rest : List Input} (hdue : s.tickDue = false)
    (hstim : s.stimulus = .receiveLoop fires :: rest) (henabled : s.resyncEnabled = true) :
    step s = leaveMain (exec .resync (State.enterMain fires { s with stimulus := rest })) :=
  step_of_main ((fetch_of_input hdue hstim).trans (if_pos henabled))

/-- Settles O6: the due tick first, then the input at the head of the stimulus. -/
theorem stepRunsTheEventsWithoutABit : Obligations.StepRunsTheEventsWithoutABit := by
  intro s rest
  refine ⟨fun hdue hA => ?_, fun hdue hB => ?_, fun hdue => ⟨?_, fun hstim => ?_, fun hstim => ?_⟩⟩
  · rw [step_of_tickDue hdue, hA, tickInstr]
  · rw [step_of_tickDue hdue, hB, tickInstr]
  · intro fires hstim hA hrun hwant hidle
    exact step_of_receiveLoop hdue hstim (s.resyncEnabled_iff.2 ⟨hA, hrun, hwant, hidle⟩)
  · exact step_of_other (fetch_of_input hdue hstim)
  · exact step_of_other (fetch_of_input hdue hstim)

/-- A firing between steps, or flagged with the receive loop, is remembered in Run (60_exceptions.md R105). -/
theorem State.timerFires_of_run {s : State} (hrun : s.mode = .run) :
    s.timerFires = { s with timer := { s.timer with tickPending := true } } := by
  rw [State.timerFires, hrun]

theorem State.timerFires_of_menu {s : State} (hmenu : s.mode = .menu) : s.timerFires = s := by
  rw [State.timerFires, hmenu]

/-- The receive loop that finds nothing to consume runs no instruction (43_timer.md R96; log 24). -/
theorem step_of_idle_receiveLoop {s : State} {fires : Bool} {rest : List Input} (hdue : s.tickDue = false)
    (hstim : s.stimulus = .receiveLoop fires :: rest) (hnot : ¬ s.resyncEnabled = true) :
    step s = .next (if fires then State.timerFires { s with stimulus := rest } else { s with stimulus := rest }) :=
  step_of_quiet ((fetch_of_input hdue hstim).trans (if_neg hnot))

/-- Settles O7: each input that runs no instruction, taken off the stimulus. -/
theorem stepsWithoutAnInstruction : Obligations.StepsWithoutAnInstruction := by
  intro s rest hdue
  refine ⟨fun hstim => ?_, fun hstim hrun => ?_, fun hstim hnot => ?_, fun hstim hrun hnot => ?_, fun hstim => ?_,
    fun r hstim hmenu => ?_, fun c hstim hmenu hB hfour => ?_⟩
  · exact step_of_quiet (fetch_of_no_input hdue hstim)
  · have hfires := State.timerFires_of_run (s := { s with stimulus := rest }) hrun
    exact (step_of_quiet (fetch_of_input hdue hstim)).trans (congrArg _ hfires)
  · exact step_of_idle_receiveLoop hdue hstim (State.not_resyncEnabled hnot)
  · have hfires := State.timerFires_of_run (s := { s with stimulus := rest }) hrun
    have hidle : s.fixed.variant = .B ∨ s.mode = .menu ∨ s.timer.wantResync = false ∨ s.decA.aState ≠ .idle :=
      hnot.imp_right .inr
    exact (step_of_idle_receiveLoop hdue hstim (State.not_resyncEnabled hidle)).trans (congrArg _ hfires)
  · exact step_of_quiet (fetch_of_input hdue hstim)
  · exact step_of_quiet ((fetch_of_input hdue hstim).trans (if_pos hmenu))
  · exact step_of_quiet ((fetch_of_input hdue hstim).trans (if_pos ⟨hmenu, hB, hfour⟩))

/-- Settles O8: in Menu no tick is due, a byte is the Menu Controller's, and the timer is disabled. -/
theorem menuSuspendsTheBlock : Obligations.MenuSuspendsTheBlock := by
  intro s x rest hmenu hstim hx
  have hdue : s.tickDue = false := by simp [State.tickDue, hmenu]
  have hfires := State.timerFires_of_menu (s := { s with stimulus := rest }) hmenu
  rcases hx with ⟨b, fires, rfl⟩ | rfl | ⟨fires, rfl⟩
  · exact step_of_quiet ((fetch_of_input hdue hstim).trans (if_neg (State.mode_ne_run hmenu)))
  · exact (step_of_quiet (fetch_of_input hdue hstim)).trans (congrArg _ hfires)
  · rw [step_of_idle_receiveLoop hdue hstim (State.not_resyncEnabled (.inr (.inl hmenu))), hfires, ite_self]

/-- A row of the main context keeps a pending firing and the mode (20_memory.md R31, R32). -/
theorem exec_main_keeps_firing {i : Instr} {s t : State} (hi : i.format ≠ .event ∨ i = .resync)
    (h : exec i s = .next t) : t.timer.tickPending = s.timer.tickPending ∧ t.mode = s.mode := by
  have hreset : ∀ r, i ≠ .reset r := by
    rintro r rfl
    simp [Instr.format] at hi
  have hresume : ∀ r, i ≠ .resume r := by
    rintro r rfl
    simp [Instr.format] at hi
  have hkept : pendingAfter s i = s.timer.tickPending := by
    cases i with
    | tickA | tickB => simp [Instr.format] at hi
    | _ => rfl
  have hframe := exec_frame h hreset hresume
  exact ⟨hframe.pending.trans hkept, hframe.mode⟩

/-- Settles O9: the firing is pending from the entry of the step on, its row does not clear it, and it is due
once unmasked. -/
theorem firingDuringAStepIsDeferred : Obligations.FiringDuringAStepIsDeferred := by
  intro s t rest hrun hdue hstep hfires
  have hmain : ∃ i, (i.format ≠ .event ∨ i = .resync) ∧
      step s = leaveMain (exec i (State.enterMain true { s with stimulus := rest })) := by
    rcases hfires with ⟨b, hstim⟩ | ⟨hstim, hA, hwant, hidle⟩
    · obtain ⟨i, hi⟩ := exists_decode_position s b
      exact ⟨i, .inl (format_ne_event hi), step_of_rx hrun hdue hstim hi⟩
    · exact ⟨.resync, .inr rfl, step_of_receiveLoop hdue hstim (s.resyncEnabled_iff.2 ⟨hA, hrun, hwant, hidle⟩)⟩
  obtain ⟨i, hi, hexec⟩ := hmain
  rw [hexec] at hstep
  obtain ⟨u, hu, rfl⟩ := leaveMain_next hstep
  obtain ⟨hpending, hmode⟩ := exec_main_keeps_firing hi hu
  rw [State.enterMain_eq] at hpending hmode
  have hpending' : u.timer.tickPending = true := by simpa [hrun] using hpending
  have hrun' : u.mode = .run := hmode.trans hrun
  have hdue' : u.unmask.tickDue = true := by simp [State.tickDue, hrun', hpending']
  exact ⟨hpending', rfl, hrun', step_of_tickDue hdue'⟩

end Sys2Proof.Machine
end

section
/-! SUPPORT. The proofs of the statements about the bytes of variant A inside a frame and a recovery window
(40_decoder_a.md), and about the events of both interpreters (41_decoder_b.md, 42_interpreter.md sections 1 to 3). -/

namespace Sys2Proof.Machine

/-- Instructions carried out one after the other: the first, then the others. -/
theorem execAll_cons {i : Instr} {is : List Instr} {s t : State} (h : exec i s = .next t) :
    execAll (i :: is) s = execAll is t := by
  rw [execAll, h]

/-! ### The recovery window and the frame buffer of variant A -/

section
variable {s : State}

theorem State.drawn_le (bound : Nat) (s : State) : s.drawn bound ≤ bound :=
  Nat.le_of_lt_succ (Nat.mod_lt _ (Nat.succ_pos _))

/-- Settles O12: A.DESYNC is the operation of 40_decoder_a.md R57 on the draw made. -/
theorem desyncReportsAndOpensTheWindow : Obligations.DesyncReportsAndOpensTheWindow := by
  intro s b hA
  refine ⟨s.drawn s.fixed.params.recoveryWindow, s.drawn_le _, ?_⟩
  rw [exec_aDesync, State.inVariant_of_eq hA]
  rfl

/-- Settles O13: the window's count is an 8-bit register that holds at least 1, so it goes down by one. -/
theorem discardCountsTheWindowDown : Obligations.DiscardCountsTheWindowDown := by
  intro s b hA hstate hpos
  have hzero : s.decA.aDiscardRem - 1 = 0 ↔ (s.decA.aDiscardRem - 1).toNat = 0 := BitVec.toNat_eq
  refine ⟨s.decA.aDiscardRem - 1, by bv_omega, ?_⟩
  rw [exec_aDiscard, State.inVariant_of_eq hA]
  simp only [State.discard, hstate, hzero]

/-- A window of one byte and `bs` more ends with the last of them. -/
theorem execAll_discard (b : Byte) (bs : List Byte) (hA : s.fixed.variant = .A) (hstate : s.decA.aState = .discard)
    (hlen : bs.length + 1 = s.decA.aDiscardRem.toNat) :
    execAll ((b :: bs).map Instr.aDiscard) s =
      .next { s with decA := { s.decA with aDiscardRem := 0, aState := .idle } } := by
  induction bs generalizing s b with
  | nil =>
    obtain ⟨r, hr, hexec⟩ := discardCountsTheWindowDown s b hA hstate hlen.le
    have hzero : r.toNat = 0 := by rw [hr, ← hlen]; rfl
    have hr0 : r = 0 := BitVec.toNat_eq.2 hzero
    rw [List.map_cons, execAll_cons hexec, if_pos hzero, hr0]
    rfl
  | cons c bs ih =>
    obtain ⟨r, hr, hexec⟩ := discardCountsTheWindowDown s b hA hstate (by omega)
    have hleft : bs.length + 1 = r.toNat := by rw [hr, ← hlen]; rfl
    have hne : r.toNat ≠ 0 := by omega
    rw [List.map_cons, execAll_cons hexec, if_neg hne]
    exact ih (s := { s with decA := { s.decA with aDiscardRem := r, aState := .discard } }) c hA rfl hleft

/-- Settles O14: each byte counts the window down, and the last one ends it. -/
theorem recoveryWindowEndsAtABoundary : Obligations.RecoveryWindowEndsAtABoundary := by
  intro s bs hA hstate hne hlen
  cases bs with
  | nil => exact absurd rfl hne
  | cons b bs => exact execAll_discard b bs hA hstate hlen

/-- Settles O15: the byte is inside the buffer and not the frame's last, so it is only stored. -/
theorem collectStoresOneByte : Obligations.CollectStoresOneByte := by
  intro s b hA hidx hmore
  refine ⟨s.decA.aBuf.write s.decA.aIdx.toNat b, ?_, Memory.read_write_same _ _ _,
    fun a ha => Memory.read_write_other _ _ _ _ ha⟩
  rw [exec_aCollect, State.inVariant_of_eq hA]
  rcases s.collect_cases b with ⟨hout, -⟩ | ⟨-, -, e⟩ | ⟨-, hlast, -⟩
  · exact absurd hidx hout
  · exact e
  · exact absurd hlast hmore

/-- Settles O17: the index is outside the buffer. -/
theorem collectOutsideTheBufferFaults : Obligations.CollectOutsideTheBufferFaults := by
  intro s b hA hidx
  rw [exec_aCollect, State.inVariant_of_eq hA]
  rcases s.collect_cases b with ⟨-, e⟩ | ⟨hin, -⟩ | ⟨hin, -⟩
  · exact e
  · exact absurd hin (Nat.not_lt.2 hidx)
  · exact absurd hin (Nat.not_lt.2 hidx)

/-! ### The rows of the action table, carried out -/

theorem exec_actionRow (s : State) :
    ∀ r ∈ actionRows, exec r.1 s = .next (s.action (some (unitOfField r.2.2)) r.2.1) := by
  simp only [actionRows, List.forall_mem_cons]
  exact ⟨rfl, rfl, rfl, rfl, rfl, rfl, rfl, rfl, rfl, rfl, rfl, rfl, by simp⟩

/-- A unit without a row only notes the condition (42_interpreter.md R89). -/
theorem State.action_of_no_row {u : UnitNo} {op : Op} (hrow : actionRow s.latched.maxCamera u op = none) :
    s.action (some u) op = s.note .noRow := by
  rcases s.action_cases (some u) op with ⟨-, e⟩ | ⟨v, c, hv, hc, -⟩
  · exact e
  · cases hv
    rw [hrow] at hc
    cases hc

/-- The ACTION row of an operation and a unit field is `Action` of that unit (30_encoding.md R50; 42_interpreter.md
R77). -/
theorem exec_decodeAction (s : State) (op : Op) (u : Nibble) :
    exec (decodeAction s.latched.maxCamera op u) s = .next (s.action (some (unitOfField u)) op) := by
  rcases decodeAction_cases s.latched.maxCamera op u with hrow | ⟨hnone, e⟩
  · exact exec_actionRow s _ hrow
  · rw [e, State.action_of_no_row hnone]
    rfl

theorem CameraFrame.token_tracking_eq {t : State} (h : CameraFrame s t) :
    t.token = s.token ∧ t.tracking = s.tracking := by
  obtain ⟨_, e⟩ := h
  rw [e]
  exact ⟨rfl, rfl⟩

/-- A command leaves the token and the tracking registers (42_interpreter.md R74, D12). -/
theorem State.action_keeps_token_tracking (u : Option UnitNo) (op : Op) (s : State) :
    (s.action u op).token = s.token ∧ (s.action u op).tracking = s.tracking := by
  rcases s.action_cases u op with ⟨-, e⟩ | ⟨v, c, -, -, e⟩ <;> rw [e]
  · exact ⟨rfl, rfl⟩
  · exact (s.command_frame c).token_tracking_eq

/-! ### Events of variant A -/

/-- The house filter stops an event of another house (42_interpreter.md R72). -/
theorem State.houseFilter_of_ne {l : House} (hl : l ≠ s.latched.houseCode) (event : State → State) :
    s.houseFilter l event = s.note .foreign := if_neg hl

/-- Settles O19: the row is the event behind the house filter, which stops it. -/
theorem foreignHouseIsIgnored : Obligations.ForeignHouseIsIgnored := by
  intro s kind p hA hforeign
  have hinterp : s.interpA kind p = s.note .foreign := by
    cases kind with
    | address => exact State.houseFilter_of_ne hforeign _
    | function => exact State.houseFilter_of_ne hforeign _
  rw [exec_decodePayload s hA, hinterp]
  rfl

/-- A Function row of the configured house is its event (42_interpreter.md R72). -/
theorem exec_funcInstr_of_house {h : Nibble} (hA : s.fixed.variant = .A)
    (hh : s.fixed.params.letterA h = s.latched.houseCode) (f : FuncName) :
    exec (funcInstr h f) s = .next (s.functionEvent f) := by
  rw [exec_funcInstr, State.inVariant_of_eq hA, State.functionA, State.houseFilter_of_eq hh]

/-- On and Off are `Action` on the tracked unit (42_interpreter.md R74). -/
theorem State.functionEvent_opFunction (op : Op) (s : State) :
    s.functionEvent (opFunction op) = s.action s.tracking.lastUnit op := by
  cases op <;> rfl

/-- Settles O21: the Function row and the ACTION row of the tracked unit are the same `Action`. -/
theorem functionActsOnTheTrackedUnit : Obligations.FunctionActsOnTheTrackedUnit := by
  intro s h i op hrow hA hh
  have hi : i = funcInstr h (opFunction op) := by
    simp only [List.mem_cons, Prod.mk.injEq, List.not_mem_nil, or_false] at hrow
    rcases hrow with ⟨rfl, rfl⟩ | ⟨rfl, rfl⟩ <;> rfl
  have hexec : exec i s = .next (s.action s.tracking.lastUnit op) := by
    rw [hi, exec_funcInstr_of_house hA hh, State.functionEvent_opFunction]
  obtain ⟨-, htracking⟩ := s.action_keeps_token_tracking s.tracking.lastUnit op
  refine ⟨fun hnone => ?_, fun u hu => ⟨_, hexec, ?_, htracking⟩⟩
  · rw [hexec, hnone]
    rfl
  · rw [hu]
    exact exec_decodeAction s op u

/-- The fourteen rows of the codes other than On and Off (42_interpreter.md R75). -/
theorem otherFunctionRows (h : Nibble) :
    ∀ i ∈ [Instr.aFuncAllUnitsOff h, .aFuncAllLightsOn h, .aFuncDim h, .aFuncBright h, .aFuncAllLightsOff h,
      .aFuncExtCode h, .aFuncHailReq h, .aFuncHailAck h, .aFuncPresetDim1 h, .aFuncPresetDim2 h, .aFuncExtData h,
      .aFuncStatusOn h, .aFuncStatusOff h, .aFuncStatusReq h],
      ∃ f, f ≠ .on ∧ f ≠ .off ∧ i = funcInstr h f := by
  simp only [List.forall_mem_cons]
  exact ⟨⟨.allUnitsOff, nofun, nofun, rfl⟩, ⟨.allLightsOn, nofun, nofun, rfl⟩, ⟨.dim, nofun, nofun, rfl⟩,
    ⟨.bright, nofun, nofun, rfl⟩, ⟨.allLightsOff, nofun, nofun, rfl⟩, ⟨.extCode, nofun, nofun, rfl⟩,
    ⟨.hailReq, nofun, nofun, rfl⟩, ⟨.hailAck, nofun, nofun, rfl⟩, ⟨.presetDim1, nofun, nofun, rfl⟩,
    ⟨.presetDim2, nofun, nofun, rfl⟩, ⟨.extData, nofun, nofun, rfl⟩, ⟨.statusOn, nofun, nofun, rfl⟩,
    ⟨.statusOff, nofun, nofun, rfl⟩, ⟨.statusReq, nofun, nofun, rfl⟩, by simp⟩

/-- Settles O22: the event of each of the fourteen codes only notes the condition. -/
theorem otherFunctionsAreIgnored : Obligations.OtherFunctionsAreIgnored := by
  intro s h i hi hA hh
  obtain ⟨f, hon, hoff, rfl⟩ := otherFunctionRows h i hi
  rw [exec_funcInstr_of_house hA hh]
  rcases s.functionEvent_cases f with ⟨hf, -⟩ | ⟨hf, -⟩ | ⟨-, -, e⟩
  · exact absurd hf hon
  · exact absurd hf hoff
  · rw [e]
    rfl

/-! ### The template of variant B -/

theorem exec_bP1 (hB : s.fixed.variant = .B) : exec .bP1 s = .next (s.setBIdx .i1) := State.inVariant_of_eq hB _

theorem exec_bP2 (hB : s.fixed.variant = .B) : exec .bP2 s = .next (s.setBIdx .i2) := State.inVariant_of_eq hB _

theorem exec_bH (hB : s.fixed.variant = .B) (h x : Nibble) :
    exec (.bH h x) s = .next (s.posH (joinNibbles h x)) := State.inVariant_of_eq hB _

theorem exec_bU (hB : s.fixed.variant = .B) (u : Byte) : exec (.bU u) s = .next (s.posU u) :=
  State.inVariant_of_eq hB _

theorem exec_bP3 (hB : s.fixed.variant = .B) :
    exec .bP3 s = .next ((s.emitB s.decB.bH s.decB.bU).setBIdx .i0) := State.inVariant_of_eq hB _

/-! A byte that is not the marker forgets the frame (41_decoder_b.md R65, R66, R69, R70). -/

theorem exec_bP1Miss (hB : s.fixed.variant = .B) {b : Byte} (hb : b ≠ 0xD5) :
    exec (.bP1Miss b) s = .next s.mismatch :=
  (State.inVariant_of_eq hB _).trans (congrArg _ (if_neg hb))

theorem exec_bP2Miss (hB : s.fixed.variant = .B) {b : Byte} (hb : b ≠ 0xAA) :
    exec (.bP2Miss b) s = .next s.mismatch :=
  (State.inVariant_of_eq hB _).trans (congrArg _ (if_neg hb))

theorem exec_bP3Miss (hB : s.fixed.variant = .B) {b : Byte} (hb : b ≠ 0xAD) :
    exec (.bP3Miss b) s = .next s.mismatch :=
  (State.inVariant_of_eq hB _).trans (congrArg _ (if_neg hb))

/-- Settles O23: each position by its row. -/
theorem templatePositionsMoveTheDecoder : Obligations.TemplatePositionsMoveTheDecoder := fun _ hB =>
  ⟨⟨rfl, exec_bP1 hB⟩, fun _ hb => ⟨decode_bP1Miss [] hb, exec_bP1Miss hB hb⟩, ⟨rfl, exec_bP2 hB⟩,
    fun _ hb => ⟨decode_bP2Miss [] hb, exec_bP2Miss hB hb⟩, fun h x => ⟨decode_joinNibbles [] h x, exec_bH hB h x⟩,
    fun u => ⟨rfl, exec_bU hB u⟩⟩

theorem EventFrame.decB_eq {t : State} (h : EventFrame s t) : t.decB = s.decB := by
  obtain ⟨_, _, e⟩ := h
  rw [e]

/-- The row of a unit and an operation is the event of its byte (42_interpreter.md R76). -/
theorem exec_unitInstr (k : Fin 6) (op : Op) (s : State) :
    exec (unitInstr k op) s =
      s.inVariant .B (.next (s.eventRow (s.fixed.params.unitCode k op) (some (k, op)))) := by
  fin_cases k <;> cases op <;> rfl

/-- The row of a `U` byte is the event of that byte (42_interpreter.md R76). -/
theorem exec_decodeUnit (hB : s.fixed.variant = .B) (u : Byte) :
    exec (decodeUnit s.fixed.params u) s = .next (s.eventB u) := by
  rcases decodeUnit_cases s.fixed.params u with ⟨k, op, hrow, hcode, e⟩ | ⟨hnone, e⟩
  · rw [e, exec_unitInstr, State.inVariant_of_eq hB, hcode, State.eventB, hrow]
  · rw [e, State.eventB, hnone]
    exact State.inVariant_of_eq hB _

/-- Settles O24: the marker emits the event, which the house filter passes to the row of its `U` byte or stops. -/
theorem lastMarkerInterpretsTheFrame : Obligations.LastMarkerInterpretsTheFrame := by
  intro s hB
  refine ⟨rfl, fun hh => ⟨_, exec_decodeUnit hB _, (s.eventRow_frame _ _).decB_eq, ?_⟩, fun hforeign => ?_,
    fun b hb => ⟨decode_bP3Miss [] hb, exec_bP3Miss hB hb⟩⟩
  · rw [exec_bP3 hB, State.emitB, State.interpB, State.houseFilter_of_eq hh]
    rfl
  · rw [exec_bP3 hB, State.emitB, State.interpB, State.houseFilter_of_ne hforeign]
    rfl

/-- At position 0 the marker moves the decoder on (41_decoder_b.md R65). -/
theorem State.decodeB_marker (hidx : s.decB.bIdx = .i0) : s.decodeB 0xD5 = s.setBIdx .i1 := by
  rw [State.decodeB, hidx]
  rfl

/-- Settles O25: each of the five bytes is in its own position, where its row is its transition. -/
theorem frameRowIsItsFiveRows : Obligations.FrameRowIsItsFiveRows := by
  intro s h x u hB hidx
  have hbytes : s.decodeAllB [0xD5, 0xAA, joinNibbles h x, u, 0xAD] =
      ((((s.setBIdx .i1).setBIdx .i2).posH (joinNibbles h x)).posU u).posP3 0xAD := by
    rw [State.decodeAllB, List.foldl_cons, State.decodeB_marker hidx]
    rfl
  have hrow : exec (.bFrame h x u) s =
      .next (((((s.setBIdx .i1).setBIdx .i2).posH (joinNibbles h x)).posU u).posP3 0xAD) := by
    rw [← hbytes]
    exact State.inVariant_of_eq hB _
  refine ⟨_, hrow, ?_, ?_⟩
  · have hB1 : (s.setBIdx .i1).fixed.variant = .B := hB
    have hB2 : ((s.setBIdx .i1).setBIdx .i2).fixed.variant = .B := hB
    have hB3 : (((s.setBIdx .i1).setBIdx .i2).posH (joinNibbles h x)).fixed.variant = .B := hB
    have hB4 : ((((s.setBIdx .i1).setBIdx .i2).posH (joinNibbles h x)).posU u).fixed.variant = .B := hB
    rw [execAll_cons (exec_bP1 hB), execAll_cons (exec_bP2 hB1), execAll_cons (exec_bH hB2 h x),
      execAll_cons (exec_bU hB3 u), execAll_cons (exec_bP3 hB4)]
    rfl
  · have hemit := (((((s.setBIdx .i1).setBIdx .i2).posH (joinNibbles h x)).posU u).emitB_frame (joinNibbles h x)
      u).decB_eq
    exact congrArg (fun d : DecoderB => { d with bIdx := .i0 }) hemit

/-! ### The token of variant B -/

theorem Token.suppresses_iff (t : Token) (raw : Byte) :
    t.suppresses raw = true ↔ t.dupValid = true ∧ t.dupValue = raw := by
  simp [Token.suppresses]

/-- A repeat of the byte the token holds only notes the condition (42_interpreter.md R76). -/
theorem State.eventRow_of_held {raw : Byte} (h : s.token.suppresses raw = true) (row : Option (Fin 6 × Op)) :
    s.eventRow raw row = s.note .duplicate := if_pos h

/-- A byte the token does not hold is held, and its entry acts (42_interpreter.md R76). -/
theorem State.eventRow_of_new {raw : Byte} (h : ¬ s.token.suppresses raw = true) (k : Fin 6) (op : Op) :
    s.eventRow raw (some (k, op)) =
      State.action (some (unitOfIndex k)) op { s with token := Token.hold raw } := if_neg h

/-- The twelve rows are those of the six units and the two operations (30_encoding.md R45). -/
theorem unitRows_unitInstr : ∀ r ∈ [(Instr.bU1On, (0 : Fin 6), Op.on), (.bU1Off, 0, .off), (.bU2On, 1, .on),
    (.bU2Off, 1, .off), (.bU3On, 2, .on), (.bU3Off, 2, .off), (.bU4On, 3, .on), (.bU4Off, 3, .off), (.bU5On, 4, .on),
    (.bU5Off, 4, .off), (.bU6On, 5, .on), (.bU6Off, 5, .off)], r.1 = unitInstr r.2.1 r.2.2 := by decide

theorem unitOfField_index (k : Fin 6) : unitOfField (BitVec.ofNat 4 k.val) = unitOfIndex k := by
  revert k
  decide

/-- Settles O26: the row is the event of its byte, and the ACTION row of its unit the `Action` behind the token. -/
theorem unitBytesActBehindTheToken : Obligations.UnitBytesActBehindTheToken := by
  intro s i k op hrow hB
  obtain rfl : i = unitInstr k op := unitRows_unitInstr (i, k, op) hrow
  rw [exec_unitInstr, State.inVariant_of_eq hB, ← Token.suppresses_iff]
  refine ⟨fun hheld => ?_, fun hnew => ⟨_, rfl, ?_⟩⟩
  · rw [State.eventRow_of_held hheld]
    rfl
  · rw [State.eventRow_of_new hnew, ← unitOfField_index]
    exact exec_decodeAction { s with token := Token.hold (s.fixed.params.unitCode k op) } op _

theorem exec_bUOther (hB : s.fixed.variant = .B) (u : Byte) : exec (.bUOther u) s = .next (s.eventRow u none) :=
  State.inVariant_of_eq hB _

/-- Settles O27: the byte without an entry is the event of that byte. -/
theorem unitByteWithoutEntryHoldsTheToken : Obligations.UnitByteWithoutEntryHoldsTheToken := by
  intro s u hB
  rw [exec_bUOther hB, ← Token.suppresses_iff]
  refine ⟨fun hheld => ?_, fun hnew => ?_⟩
  · rw [State.eventRow_of_held hheld]
    rfl
  · exact congrArg _ (if_neg hnew)

theorem Token.hold_suppresses (raw : Byte) : (Token.hold raw).suppresses raw = true :=
  (Token.suppresses_iff _ _).2 ⟨rfl, rfl⟩

/-- After its event the token holds a byte, whether it held it before or not (42_interpreter.md R76). -/
theorem State.eventRow_holds (raw : Byte) (row : Option (Fin 6 × Op)) (s : State) :
    (s.eventRow raw row).token.suppresses raw = true := by
  rcases s.eventRow_cases raw row with ⟨hheld, e⟩ | ⟨-, -, e⟩ | ⟨-, k, op, -, e⟩ <;> rw [e]
  · exact hheld
  · exact Token.hold_suppresses raw
  · obtain ⟨htoken, -⟩ :=
      State.action_keeps_token_tracking (some (unitOfIndex k)) op { s with token := Token.hold raw }
    rw [htoken]
    exact Token.hold_suppresses raw

/-- Settles O28: after the first event the token holds the byte, which is the same one: the tables do not change. -/
theorem repeatedUnitByteIsSuppressed : Obligations.RepeatedUnitByteIsSuppressed := by
  intro s t i hB hi h
  have hfixed : t.fixed = s.fixed := exec_fixed h
  have hB' : t.fixed.variant = .B := hfixed ▸ hB
  rcases hi with ⟨k, op, rfl⟩ | ⟨u, rfl⟩
  · have hcode : t.fixed.params.unitCode k op = s.fixed.params.unitCode k op := by rw [hfixed]
    rw [exec_unitInstr, State.inVariant_of_eq hB', hcode]
    rw [exec_unitInstr, State.inVariant_of_eq hB] at h
    cases h
    rw [State.eventRow_of_held (State.eventRow_holds _ _ s)]
    rfl
  · rw [exec_bUOther hB] at h
    cases h
    rw [exec_bUOther hB', State.eventRow_of_held (State.eventRow_holds _ _ s)]
    rfl

end

end Sys2Proof.Machine
end

section
/-! SUPPORT. The proofs of the statements about the commands (42_interpreter.md sections 4, 5 and 7): what each command
is in closed form, which command a row carries out, and the statements. -/

namespace Sys2Proof.Machine

/-! ### Commands in closed form -/

section
variable {s : State}

/-- A selection as a command: CAM.ON, the steps and ALL.OFF are one `Select` (42_interpreter.md R77, R84). -/
theorem State.qualify_select (n : Slot) (s : State) :
    s.qualify.select n = { s with
      camera := { s.camera with currentCamera := n, scanActive := false, inactivityCounter := 0 }
      out := if s.camera.currentCamera = n then s.out
        else { s.out with muxSlot := n, odTrace := s.out.odTrace ++ [n] } } := s.command_camOn n

theorem Camera.enableScan_eq (c : Camera) :
    c.enableScan = { c with scanActive := true
                            scanCycleCounter := if c.scanActive then c.scanCycleCounter else 0 } := by
  obtain ⟨current, scan, cycle, inactivity⟩ := c
  cases scan <;> rfl

/-- SCAN.ON as a command (42_interpreter.md R79, R85). -/
theorem State.qualify_enableScan (s : State) :
    s.qualify.enableScan = { s with camera := { s.camera with
      scanActive := true
      scanCycleCounter := if s.camera.scanActive then s.camera.scanCycleCounter else 0
      inactivityCounter := 0 } } := by
  rw [State.enableScan, Camera.enableScan_eq]
  rfl

/-- CAM.OFF of another camera only restarts the inactivity count (42_interpreter.md R81). -/
theorem State.command_camOff_of_ne {n : Slot} (h : s.camera.currentCamera ≠ n) :
    s.command (.camOff n) = s.qualify := if_neg h

theorem State.command_camOff_of_eq {n : Slot} (h : s.camera.currentCamera = n) :
    s.command (.camOff n) = s.qualify.applyIdlePolicy := if_pos h

/-- A unit with a row answers the command of the row (42_interpreter.md R77). -/
theorem exec_command {i : Instr} {op : Op} {u : Nibble} {c : Command} (hrow : (i, op, u) ∈ actionRows)
    (hc : actionRow s.latched.maxCamera (unitOfField u) op = some c) : exec i s = .next (s.command c) := by
  rw [exec_actionRow s _ hrow, State.action_of_row hc]

end

/-! ### SCAN.ON, ALL.OFF, CAM.OFF and the commands without a row -/

/-- Settles O30: SCAN.ON has a row whatever `max_camera` is. -/
theorem scanOnEnablesScanning : Obligations.ScanOnEnablesScanning := by
  intro s
  rw [exec_command (op := .on) (u := 4) (c := .scanOn) (by decide) rfl]
  exact congrArg _ s.qualify_enableScan

/-- Settles O33: ALL.OFF has a row whatever `max_camera` is. -/
theorem allOffSelectsSlotZero : Obligations.AllOffSelectsSlotZero := by
  intro s
  rw [exec_command (op := .off) (u := 4) (c := .allOff) (by decide) rfl]
  exact congrArg _ (s.qualify_select 0)

/-- The four CAM.OFF rows with the camera each is for (42_interpreter.md R81). -/
def camOffRows : List (Instr × Slot) := [(.camOff1, 1), (.camOff2, 2), (.camOff3, 3), (.camOff4, 4)]

theorem camOffRows_range : ∀ r ∈ camOffRows, 1 ≤ r.2.toNat ∧ r.2.toNat ≤ 4 := by decide

theorem exec_camOffRow (s : State) :
    ∀ r ∈ camOffRows, exec r.1 s = .next (s.action (some (r.2.setWidth 5)) .off) := by
  simp only [camOffRows, List.forall_mem_cons]
  exact ⟨rfl, rfl, rfl, rfl, by simp⟩

/-- OFF of a camera's unit up to `max_camera` is that camera's CAM.OFF (42_interpreter.md R77, R81). -/
theorem actionRow_camera_off : ∀ M n : Slot, 1 ≤ n.toNat → n.toNat ≤ 4 → n.toNat ≤ M.toNat →
    actionRow M (n.setWidth 5) .off = some (.camOff n) := by decide

/-- Settles O32: the row's unit has the command CAM.OFF of its camera, which applies the idle policy or not. -/
theorem cameraOffAppliesTheIdlePolicy : Obligations.CameraOffAppliesTheIdlePolicy := by
  intro s i n hrow hmax
  obtain ⟨hpos, hfour⟩ := camOffRows_range (i, n) hrow
  have hexec : exec i s = .next (s.command (.camOff n)) := by
    rw [exec_camOffRow s (i, n) hrow, State.action_of_row (actionRow_camera_off _ _ hpos hfour hmax)]
  have hidle (hcur : s.camera.currentCamera = n) : exec i s = .next s.qualify.applyIdlePolicy := by
    rw [hexec, State.command_camOff_of_eq hcur]
  refine ⟨fun hcur => ?_, fun hcur hmode => ?_, fun hcur hmode => ?_, fun hcur hmode => ?_⟩
  · rw [hexec, State.command_camOff_of_ne hcur]
    rfl
  · rw [hidle hcur, State.applyIdlePolicy, State.qualify_latched, hmode, ← s.qualify_enableScan]
  · rw [hidle hcur, State.applyIdlePolicy, State.qualify_latched, hmode, ← hcur, ← s.qualify_select 1]
  · rw [hidle hcur, State.applyIdlePolicy, State.qualify_latched, hmode]
    rfl

/-- The rows of the four cameras, each `Action` of its unit (42_interpreter.md R78, R81). -/
theorem exec_cameraRow (s : State) :
    ∀ r ∈ [(Instr.camOn1, 1), (.camOn2, 2), (.camOn3, 3), (.camOn4, 4), (.camOff1, 1), (.camOff2, 2), (.camOff3, 3),
      (.camOff4, 4)], ∃ (u : UnitNo) (op : Op), u ≠ 5 ∧ u ≠ 6 ∧ u.toNat = r.2 ∧
        exec r.1 s = .next (s.action (some u) op) := by
  simp only [List.forall_mem_cons]
  exact ⟨⟨1, .on, by decide, by decide, rfl, rfl⟩, ⟨2, .on, by decide, by decide, rfl, rfl⟩,
    ⟨3, .on, by decide, by decide, rfl, rfl⟩, ⟨4, .on, by decide, by decide, rfl, rfl⟩,
    ⟨1, .off, by decide, by decide, rfl, rfl⟩, ⟨2, .off, by decide, by decide, rfl, rfl⟩,
    ⟨3, .off, by decide, by decide, rfl, rfl⟩, ⟨4, .off, by decide, by decide, rfl, rfl⟩, by simp⟩

/-- Settles O34: a camera's unit above `max_camera` has no row. -/
theorem commandsWithoutARowDoNothing : Obligations.CommandsWithoutARowDoNothing := by
  refine ⟨fun s i n hrow hmax => ?_, fun s o u => rfl⟩
  obtain ⟨u, op, h5, h6, hu, hexec⟩ := exec_cameraRow s (i, n) hrow
  have hnone : actionRow s.latched.maxCamera u op = none :=
    (actionRow_eq_none_iff _ _ _).2 ⟨h5, h6, fun ⟨_, _, hle⟩ => absurd hmax (by omega)⟩
  rw [hexec, State.action_of_no_row hnone]
  rfl

/-! ### The steps -/

/-- The numbers of the neighbours (42_interpreter.md R87). -/
theorem prevSlot_toNat : ∀ M c : Slot, (prevSlot M c).toNat = if c.toNat ≤ 1 then M.toNat else c.toNat - 1 := by
  decide

theorem nextSlot_toNat : ∀ M c : Slot, (nextSlot M c).toNat = if M.toNat ≤ c.toNat then 1 else c.toNat + 1 := by
  decide

/-- On the cameras up to `max_camera` the neighbours undo each other (42_interpreter.md R90 law 3). -/
theorem nextSlot_prevSlot : ∀ M c : Slot, 2 ≤ M.toNat → 1 ≤ c.toNat → c.toNat ≤ M.toNat →
    nextSlot M (prevSlot M c) = c := by decide

theorem prevSlot_nextSlot : ∀ M c : Slot, 2 ≤ M.toNat → 1 ≤ c.toNat → c.toNat ≤ M.toNat →
    prevSlot M (nextSlot M c) = c := by decide

theorem exec_stepPrev (s : State) :
    exec .stepPrev s = .next (s.qualify.select (prevSlot s.latched.maxCamera s.camera.currentCamera)) :=
  exec_command (op := .on) (u := 5) (c := .stepPrev) (by decide) rfl

theorem exec_stepNext (s : State) :
    exec .stepNext s = .next (s.qualify.select (nextSlot s.latched.maxCamera s.camera.currentCamera)) :=
  exec_command (op := .off) (u := 5) (c := .stepNext) (by decide) rfl

/-- A selection of another camera always calls the Output Driver (42_interpreter.md R84). -/
theorem State.qualify_select_of_ne {n : Slot} {s : State} (h : n ≠ s.camera.currentCamera) :
    s.qualify.select n = { s with
      camera := { s.camera with currentCamera := n, scanActive := false, inactivityCounter := 0 }
      out := { s.out with muxSlot := n, odTrace := s.out.odTrace ++ [n] } } := by
  rw [State.qualify_select, if_neg h.symm]

/-- Settles O31: each step selects the neighbour, which is never the current camera. -/
theorem stepsSelectTheNeighbour : Obligations.StepsSelectTheNeighbour := by
  intro s i n htwo hcur hrow
  obtain ⟨-, -, hprev⟩ := prevSlot_range _ _ htwo hcur
  obtain ⟨-, -, hnext⟩ := nextSlot_range _ _ htwo hcur
  simp only [List.mem_cons, Prod.mk.injEq, List.not_mem_nil, or_false] at hrow
  rcases hrow with ⟨rfl, rfl⟩ | ⟨rfl, rfl⟩
  · exact ⟨_, prevSlot_toNat _ _, by rw [exec_stepPrev, State.qualify_select_of_ne hprev]⟩
  · exact ⟨_, nextSlot_toNat _ _, by rw [exec_stepNext, State.qualify_select_of_ne hnext]⟩

/-- Settles O36: the second step starts at the neighbour, with the same `max_camera`. -/
theorem stepsUndoEachOther : Obligations.StepsUndoEachOther := by
  intro s i j hrow htwo hpos hcur
  simp only [List.mem_cons, Prod.mk.injEq, List.not_mem_nil, or_false] at hrow
  rcases hrow with ⟨rfl, rfl⟩ | ⟨rfl, rfl⟩
  · rw [execAll_cons (exec_stepPrev s), execAll_cons (exec_stepNext _)]
    refine ⟨_, rfl, ?_⟩
    rw [State.select_camera, State.qualify_select]
    exact nextSlot_prevSlot _ _ htwo hpos hcur
  · rw [execAll_cons (exec_stepNext s), execAll_cons (exec_stepPrev _)]
    refine ⟨_, rfl, ?_⟩
    rw [State.select_camera, State.qualify_select]
    exact prevSlot_nextSlot _ _ htwo hpos hcur

/-! ### Commands repeated -/

section
variable {s : State}

theorem CameraFrame.latched_eq {t : State} (h : CameraFrame s t) : t.latched = s.latched := by
  obtain ⟨_, e⟩ := h
  rw [e]

/-! What changes nothing where it has been done already. -/

theorem State.qualify_of_zero (h : s.camera.inactivityCounter = 0) : s.qualify = s := by
  rw [State.qualify, ← h]

theorem State.select_of_selected {n : Slot} (hcur : s.camera.currentCamera = n) (hscan : s.camera.scanActive = false) :
    s.select n = s := by
  rcases s.select_cases n with ⟨-, e⟩ | ⟨hne, -⟩
  · rw [e, ← hscan]
  · exact absurd hcur.symm hne

theorem State.enableScan_of_scanning (h : s.camera.scanActive = true) : s.enableScan = s := by
  rcases s.enableScan_cases with ⟨-, e⟩ | ⟨hoff, -⟩
  · exact e
  · rw [hoff] at h
    cases h

theorem State.select_again (n : Slot) (s : State) : (s.select n).select n = s.select n :=
  State.select_of_selected (by rw [State.select_camera]) (by rw [State.select_camera])

theorem State.enableScan_again (s : State) : s.enableScan.enableScan = s.enableScan :=
  State.enableScan_of_scanning (by rw [State.enableScan_camera, Camera.enableScan_eq])

/-- The idle policy, applied again, changes nothing: the policy is latched (42_interpreter.md R86). -/
theorem State.applyIdlePolicy_again (s : State) : s.applyIdlePolicy.applyIdlePolicy = s.applyIdlePolicy := by
  have hlatched := s.applyIdlePolicy_frame.latched_eq
  rcases s.applyIdlePolicy_cases with ⟨hmode, e⟩ | ⟨hmode, e⟩ | ⟨hmode, e⟩
  · rw [State.applyIdlePolicy, hlatched, hmode, e]
    exact s.enableScan_again
  · rw [State.applyIdlePolicy, hlatched, hmode, e]
    exact s.select_again 1
  · rw [e, e]

/-- The commands but the two steps change nothing when they are repeated (42_interpreter.md R90 law 1). -/
theorem State.perform_again {c : Command} (hprev : c ≠ .stepPrev) (hnext : c ≠ .stepNext) (s : State) :
    (s.perform c).perform c = s.perform c := by
  cases c with
  | camOn n => exact s.select_again n
  | scanOn => exact s.enableScan_again
  | allOff => exact s.select_again 0
  | camOff n =>
    by_cases hcur : s.camera.currentCamera = n
    · have hidle : s.perform (.camOff n) = s.applyIdlePolicy := if_pos hcur
      rw [hidle, State.perform]
      split
      · exact s.applyIdlePolicy_again
      · rfl
    · have hother : s.perform (.camOff n) = s := if_neg hcur
      rw [hother, hother]
  | stepPrev => exact absurd rfl hprev
  | stepNext => exact absurd rfl hnext

/-- No command but its first effect writes the inactivity count (42_interpreter.md R77). -/
theorem State.perform_inactivityCounter (c : Command) (s : State) :
    (s.perform c).camera.inactivityCounter = s.camera.inactivityCounter := by
  have hselect (n : Slot) : (s.select n).camera.inactivityCounter = s.camera.inactivityCounter := by
    rw [State.select_camera]
  have henable : s.enableScan.camera.inactivityCounter = s.camera.inactivityCounter := by
    rw [State.enableScan_camera, Camera.enableScan_eq]
  cases c with
  | camOn n => exact hselect n
  | scanOn => exact henable
  | camOff n =>
    rw [State.perform]
    split
    · rcases s.applyIdlePolicy_cases with ⟨-, e⟩ | ⟨-, e⟩ | ⟨-, e⟩ <;> rw [e]
      · exact henable
      · exact hselect 1
    · rfl
  | stepPrev | stepNext | allOff => exact hselect _

/-- A command restarts the inactivity count (42_interpreter.md R77, R90 law 4). -/
theorem State.command_inactivityCounter (c : Command) (s : State) :
    (s.command c).camera.inactivityCounter = 0 := State.perform_inactivityCounter c s.qualify

theorem State.command_again {c : Command} (hprev : c ≠ .stepPrev) (hnext : c ≠ .stepNext) (s : State) :
    (s.command c).command c = s.command c := by
  rw [State.command, State.qualify_of_zero (s.command_inactivityCounter c)]
  exact State.perform_again hprev hnext s.qualify

/-- Only unit 6 steps (42_interpreter.md R77). -/
theorem actionRow_ne_step {M : Slot} {u : UnitNo} {op : Op} {c : Command} (hu : u ≠ 6)
    (hc : actionRow M u op = some c) : c ≠ .stepPrev ∧ c ≠ .stepNext := by
  cases op <;> simp only [actionRow, if_neg hu] at hc <;> split_ifs at hc <;> cases hc <;> exact ⟨nofun, nofun⟩

/-- The selecting rows are those of the units but 6 (42_interpreter.md R90 law 1). -/
theorem selectionRows : ∀ i ∈ [Instr.camOn1, .camOn2, .camOn3, .camOn4, .scanOn, .allOff, .camOff1, .camOff2, .camOff3,
    .camOff4], ∃ op u, (i, op, u) ∈ actionRows ∧ unitOfField u ≠ 6 := by
  simp only [List.forall_mem_cons]
  exact ⟨⟨.on, 0, by decide, by decide⟩, ⟨.on, 1, by decide, by decide⟩, ⟨.on, 2, by decide, by decide⟩,
    ⟨.on, 3, by decide, by decide⟩, ⟨.on, 4, by decide, by decide⟩, ⟨.off, 4, by decide, by decide⟩,
    ⟨.off, 0, by decide, by decide⟩, ⟨.off, 1, by decide, by decide⟩, ⟨.off, 2, by decide, by decide⟩,
    ⟨.off, 3, by decide, by decide⟩, by simp⟩

end

/-- Settles O35: without a row only the condition is noted again, and with one the command changes nothing more. -/
theorem selectionsAreIdempotent : Obligations.SelectionsAreIdempotent := by
  intro s t u i hi hfirst hsecond
  obtain ⟨op, unit, hrow, hunit⟩ := selectionRows i hi
  rw [exec_actionRow _ _ hrow] at hfirst hsecond
  cases hsecond
  rcases s.action_cases (some (unitOfField unit)) op with ⟨hnone, e⟩ | ⟨v, c, hv, hc, e⟩ <;> rw [e] at hfirst <;>
    cases hfirst
  · have hagain : (s.note .noRow).action (some (unitOfField unit)) op = (s.note .noRow).note .noRow :=
      State.action_of_no_row (hnone _ rfl)
    rw [hagain]
    rfl
  · cases hv
    obtain ⟨hprev, hnext⟩ := actionRow_ne_step hunit hc
    rw [← (s.command_frame c).latched_eq] at hc
    rw [State.action_of_row hc, State.command_again hprev hnext]

/-! ### What a command leaves scanning -/

/-- The commands after which the block scans (42_interpreter.md R90 law 5). -/
theorem State.perform_scanning {c : Command} {s : State} (h : (s.perform c).camera.scanActive = true) :
    c = .scanOn ∨ ∃ n, c = .camOff n ∧ ((s.camera.currentCamera = n ∧ s.latched.idleMode = .scan) ∨
      (s.camera.scanActive = true ∧ (s.camera.currentCamera ≠ n ∨ s.latched.idleMode = .none))) := by
  have hselect (n : Slot) (hn : (s.select n).camera.scanActive = true) : False := by
    rw [State.select_camera] at hn
    cases hn
  cases c with
  | scanOn => exact .inl rfl
  | camOff n =>
    refine .inr ⟨n, rfl, ?_⟩
    rw [State.perform] at h
    split at h
    next hcur =>
      rcases s.applyIdlePolicy_cases with ⟨hmode, -⟩ | ⟨-, e⟩ | ⟨hmode, e⟩
      · exact .inl ⟨hcur, hmode⟩
      · rw [e] at h
        exact (hselect 1 h).elim
      · rw [e] at h
        exact .inr ⟨h, .inr hmode⟩
    next hcur => exact .inr ⟨h, .inl hcur⟩
  | camOn n | stepPrev | allOff | stepNext => exact (hselect _ h).elim

/-- A row of the ACTION format but NOROW is one of the twelve (30_encoding.md R50). -/
theorem exists_mem_actionRows {i : Instr} (hformat : i.format = .action) (hrow : ∀ o u, i ≠ .noRow o u) :
    ∃ op u, (i, op, u) ∈ actionRows := by
  cases i with
  | camOn1 => exact ⟨.on, 0, by decide⟩
  | camOn2 => exact ⟨.on, 1, by decide⟩
  | camOn3 => exact ⟨.on, 2, by decide⟩
  | camOn4 => exact ⟨.on, 3, by decide⟩
  | scanOn => exact ⟨.on, 4, by decide⟩
  | stepPrev => exact ⟨.on, 5, by decide⟩
  | camOff1 => exact ⟨.off, 0, by decide⟩
  | camOff2 => exact ⟨.off, 1, by decide⟩
  | camOff3 => exact ⟨.off, 2, by decide⟩
  | camOff4 => exact ⟨.off, 3, by decide⟩
  | allOff => exact ⟨.off, 4, by decide⟩
  | stepNext => exact ⟨.off, 5, by decide⟩
  | noRow o u => exact absurd rfl (hrow o u)
  | _ => cases hformat

/-- The row of CAM.OFF n, read from its fields, is one of the four (30_encoding.md R50). -/
theorem decodeAction_camOff (M : Slot) (op : Op) (u : Nibble) (n : Slot)
    (h : actionRow M (unitOfField u) op = some (.camOff n)) : (decodeAction M op u, n) ∈ camOffRows := by
  revert h
  cases op <;> revert M u n <;> decide

/-- A well-formed row of the twelve carries out the command of its unit (42_interpreter.md R77). -/
theorem exec_actionRow_of_wellFormed {i : Instr} {s : State} {op : Op} {u : Nibble} (hrow : (i, op, u) ∈ actionRows)
    (hwf : i.WellFormed s.ctx) : decodeAction s.latched.maxCamera op u = i ∧
      ∃ c, actionRow s.latched.maxCamera (unitOfField u) op = some c ∧ exec i s = .next (s.command c) := by
  have hdecode : decodeAction s.latched.maxCamera op u = i :=
    decodeAction_actionRow s.fixed.params s.latched.maxCamera (i, op, u) hrow hwf
  refine ⟨hdecode, ?_⟩
  cases hc : actionRow s.latched.maxCamera (unitOfField u) op with
  | none =>
    rw [decodeAction_noRow hc] at hdecode
    rw [← hdecode] at hrow
    simp [actionRows] at hrow
  | some c => exact ⟨c, rfl, exec_command hrow hc⟩

/-- Settles O37: the command of the row restarts the count, and of the commands only two can leave a scan. -/
theorem commandsRestartTheInactivityCount : Obligations.CommandsRestartTheInactivityCount := by
  intro s t i hformat hwf hnoRow hexec
  obtain ⟨op, u, hrow⟩ := exists_mem_actionRows hformat hnoRow
  obtain ⟨hdecode, c, hc, hcommand⟩ := exec_actionRow_of_wellFormed hrow hwf
  rw [hcommand] at hexec
  cases hexec
  refine ⟨s.command_inactivityCounter c, fun hscan => ?_⟩
  rcases State.perform_scanning (s := s.qualify) hscan with rfl | ⟨n, rfl, hcase⟩
  · rw [decodeAction, hc] at hdecode
    exact .inl hdecode.symm
  · exact .inr ⟨n, hdecode ▸ decodeAction_camOff _ _ _ _ hc, hcase⟩

end Sys2Proof.Machine
end

section
/-! SUPPORT. The proofs of the statements about the Timer Process (43_timer.md): what the parts of a slow tick leave,
the two TickSteps, and what some number of ticks comes to. -/

namespace Sys2Proof.Machine

/-! ### The scan or idle part -/

section
variable {s t : State}

theorem State.scanOrIdleTick_of_scanning (h : s.camera.scanActive = true) : s.scanOrIdleTick = s.scanTick := by
  rcases s.scanOrIdleTick_cases with ⟨-, e⟩ | ⟨hoff, -⟩
  · exact e
  · rw [h] at hoff
    cases hoff

theorem State.scanOrIdleTick_of_idle (h : s.camera.scanActive = false) : s.scanOrIdleTick = s.idleTick := by
  rcases s.scanOrIdleTick_cases with ⟨hon, -⟩ | ⟨-, e⟩
  · rw [h] at hon
    cases hon
  · exact e

/-- Above the threshold the idle policy is applied and the count is cleared; the count plays no part in the policy
(43_timer.md R94). -/
theorem State.idleTick_above (h : s.fixed.params.inactivityThreshold < (s.camera.inactivityCounter + 1).toNat) :
    s.idleTick = s.applyIdlePolicy.setInactivity 0 := by
  rcases s.idleTick_cases with ⟨hle, -⟩ | ⟨-, e⟩
  · exact absurd h (Nat.not_lt.2 hle)
  · rw [e, State.applyIdlePolicy_setInactivity]
    rfl

/-- What the idle policy leaves of a camera that is not scanning (42_interpreter.md R86). -/
theorem State.applyIdlePolicy_of_idle (h : s.camera.scanActive = false) :
    (s.latched.idleMode = .scan →
      s.applyIdlePolicy.camera = { s.camera with scanActive := true, scanCycleCounter := 0 } ∧
      s.applyIdlePolicy.out = s.out) ∧
    (s.latched.idleMode = .priorityCamera →
      s.applyIdlePolicy.camera = { s.camera with currentCamera := 1 } ∧
      s.applyIdlePolicy.out = if s.camera.currentCamera = 1 then s.out
        else { s.out with muxSlot := 1, odTrace := s.out.odTrace ++ [1] }) ∧
    (s.latched.idleMode = .none → s.applyIdlePolicy = s) := by
  refine ⟨fun hmode => ?_, fun hmode => ?_, fun hmode => ?_⟩ <;> rw [State.applyIdlePolicy, hmode]
  · refine ⟨?_, rfl⟩
    rw [State.enableScan_camera, Camera.enableScan_eq, h]
    rfl
  · refine ⟨?_, ?_⟩
    · rw [State.select_camera, ← h]
    · rw [State.select_out]
      simp only [eq_comm]

/-- The scan or idle part has the effect of 43_timer.md R91, R93 and R94. -/
theorem State.scanOrIdleTick_effect (s : State) : ScanOrIdleEffect s s.scanOrIdleTick := by
  refine ⟨fun hscan hbelow => ?_, fun hscan hat => ?_, fun hoff hbelow => ?_, fun hoff habove => ?_⟩
  · rw [State.scanOrIdleTick_of_scanning hscan]
    rcases s.scanTick_cases with ⟨-, e⟩ | ⟨hat, -⟩
    · rw [e]
      exact ⟨rfl, rfl⟩
    · exact absurd hbelow (Nat.not_lt.2 hat)
  · rw [State.scanOrIdleTick_of_scanning hscan]
    rcases s.scanTick_cases with ⟨hbelow, -⟩ | ⟨-, e⟩
    · exact absurd hbelow (Nat.not_lt.2 hat)
    · rw [e]
      exact ⟨_, nextSlot_toNat _ _, rfl, rfl⟩
  · rw [State.scanOrIdleTick_of_idle hoff]
    rcases s.idleTick_cases with ⟨-, e⟩ | ⟨habove, -⟩
    · rw [e]
      exact ⟨rfl, rfl⟩
    · exact absurd habove (Nat.not_lt.2 hbelow)
  · obtain ⟨hscan, hpriority, hnone⟩ := State.applyIdlePolicy_of_idle hoff
    rw [State.scanOrIdleTick_of_idle hoff, State.idleTick_above habove, State.setInactivity_camera,
      State.setInactivity_out]
    refine ⟨fun hmode => ?_, fun hmode => ?_, fun hmode => ?_⟩
    · obtain ⟨hcamera, hout⟩ := hscan hmode
      exact ⟨by rw [hcamera], hout⟩
    · obtain ⟨hcamera, hout⟩ := hpriority hmode
      exact ⟨by rw [hcamera], hout⟩
    · rw [hnone hmode]
      exact ⟨rfl, rfl⟩

/-- The effect is on the shared camera state and the outputs only. -/
theorem ScanOrIdleEffect.of_eq {u : State} (h : ScanOrIdleEffect s t) (hcamera : u.camera = t.camera)
    (hout : u.out = t.out) : ScanOrIdleEffect s u := by
  rwa [ScanOrIdleEffect, hcamera, hout]

/-! ### The TickSteps -/

theorem exec_tickA (hA : s.fixed.variant = .A) :
    exec .tickA s = .next s.clearPending.scanOrIdleTick.resyncTick := by
  rw [← s.tickStepA_eq hA]
  exact State.inVariant_of_eq hA _

theorem exec_tickB (hB : s.fixed.variant = .B) : exec .tickB s = .next s.tickStepB := State.inVariant_of_eq hB _

/-- The resync count writes the timer's registers only (43_timer.md R95). -/
theorem State.resyncTick_eq (s : State) : s.resyncTick = { s with timer := s.resyncTick.timer } := by
  rcases s.resyncTick_cases with ⟨-, e⟩ | ⟨-, e⟩ <;> rw [e]

theorem State.resyncTick_timer_below
    (h : (s.timer.resyncCounter + 1).toNat < s.fixed.params.resyncThreshold) :
    s.resyncTick.timer = { s.timer with resyncCounter := s.timer.resyncCounter + 1 } := by
  rcases s.resyncTick_cases with ⟨-, e⟩ | ⟨hat, -⟩
  · rw [e]
  · exact absurd h (Nat.not_lt.2 hat)

theorem State.resyncTick_timer_at
    (h : s.fixed.params.resyncThreshold ≤ (s.timer.resyncCounter + 1).toNat) :
    s.resyncTick.timer = { s.timer with wantResync := true, resyncCounter := 0 } := by
  rcases s.resyncTick_cases with ⟨hbelow, -⟩ | ⟨-, e⟩
  · exact absurd hbelow (Nat.not_lt.2 h)
  · rw [e]

end

/-- Settles O38: the scan or idle part leaves the timer, and the resync count everything but the timer. -/
theorem tickOfVariantA : Obligations.TickOfVariantA := by
  intro s hA
  have heffect : ScanOrIdleEffect s s.clearPending.scanOrIdleTick := s.clearPending.scanOrIdleTick_effect
  obtain ⟨camera, calls, hscan⟩ := s.clearPending.scanOrIdleTick_frame.exists_eq
  refine ⟨_, exec_tickA hA, heffect.of_eq ?_ ?_, ?_, fun hbelow => ?_, fun hat => ?_⟩
  · rw [State.resyncTick_eq]
  · rw [State.resyncTick_eq]
  · rw [State.resyncTick_eq, hscan]
    rfl
  · rw [hscan]
    exact State.resyncTick_timer_below hbelow
  · rw [hscan]
    exact State.resyncTick_timer_at hat

/-- Settles O39: the two cases of the prescale count. -/
theorem tickOfVariantB : Obligations.TickOfVariantB := by
  intro s hB
  rw [exec_tickB hB]
  refine ⟨fun hne => ?_, fun hfive => ?_⟩ <;> rcases s.tickStepB_cases hB with ⟨hother, e⟩ | ⟨hother, e⟩
  · rw [e]
  · exact absurd hother hne
  · exact absurd hfive hother
  · obtain ⟨camera, calls, hscan⟩ := (State.scanOrIdleTick_frame _).exists_eq
    have heffect := State.scanOrIdleTick_effect { s with
      token := { s.token with dupValid := false }
      timer := { s.timer with tickPending := false, prescaleCounter := 0 } }
    refine ⟨_, rfl, ?_, ?_⟩
    · rw [e]
      exact heffect
    · rw [e, hscan]

/-! ### Some number of ticks -/

theorem execAll_singleton (i : Instr) (s : State) : execAll [i] s = exec i s := by
  unfold execAll
  cases exec i s <;> rfl

/-- One instruction more, after instructions that are carried out. -/
theorem execAll_append_one {is : List Instr} {i : Instr} {s t : State} (h : execAll is s = .next t) :
    execAll (is ++ [i]) s = exec i t := by
  induction is generalizing s with
  | nil =>
    cases h
    exact execAll_singleton i _
  | cons j is ih =>
    rw [execAll] at h
    rw [List.cons_append, execAll]
    cases hj : exec j s with
    | next u =>
      rw [hj] at h
      exact ih h
    | fault f => rw [hj] at h; cases h
    | refused r => rw [hj] at h; cases h

/-- What holds at the start, and is carried on by each of `n` repetitions, holds after them. -/
theorem execAll_replicate {i : Instr} {P : Nat → State → Prop} {s : State} (n : Nat) (hstart : P 0 s)
    (hnext : ∀ k < n, ∀ t, P k t → ∃ u, exec i t = .next u ∧ P (k + 1) u) :
    ∃ t, execAll (List.replicate n i) s = .next t ∧ P n t := by
  induction n with
  | zero => exact ⟨s, rfl, hstart⟩
  | succ n ih =>
    obtain ⟨t, ht, hP⟩ := ih fun k hk => hnext k (Nat.lt_succ_of_lt hk)
    obtain ⟨u, hu, hP'⟩ := hnext n (Nat.lt_succ_self n) t hP
    refine ⟨u, ?_, hP'⟩
    rw [List.replicate_succ', execAll_append_one ht, hu]

/-- One step of an 8-bit count that is still below 255. -/
theorem counter_succ {k : Nat} (hk : k < 255) :
    BitVec.ofNat 8 k + 1 = BitVec.ofNat 8 (k + 1) ∧ (BitVec.ofNat 8 k + 1).toNat = k + 1 := by
  have hsucc : BitVec.ofNat 8 k + 1 = BitVec.ofNat 8 (k + 1) := (BitVec.ofNat_add k 1).symm
  refine ⟨hsucc, ?_⟩
  rw [hsucc, BitVec.toNat_ofNat, Nat.mod_eq_of_lt (by omega)]

/-- Every scan threshold fits an 8-bit count (00_scope.md section 6). -/
theorem scanTicks_le {p : Params} (h : p.BoundsLegal) (m : Fin 6) : p.scanTicks m ≤ 255 := by
  obtain ⟨hscan, -⟩ := h
  exact (hscan _ (Vector.mem_toList_iff.2 (Vector.getElem_mem m.isLt))).2

/-! A counter written with what it holds. -/

theorem Camera.with_scanCycleCounter {c : Camera} {n : Counter} (h : c.scanCycleCounter = n) :
    { c with scanCycleCounter := n } = c := by
  subst h
  rfl

theorem Camera.with_inactivityCounter {c : Camera} {n : Counter} (h : c.inactivityCounter = n) :
    { c with inactivityCounter := n } = c := by
  subst h
  rfl

theorem Timer.with_prescaleCounter {r : Timer} {n : BitVec 3} (h : r.prescaleCounter = n) :
    { r with prescaleCounter := n } = r := by
  subst h
  rfl

/-- Between the periods of the scan or idle part: the camera state named, and the variant, the tables, the configuration
and the outputs as at the start. -/
structure CameraAt (s : State) (camera : Camera) (t : State) : Prop where
  fixed : t.fixed = s.fixed
  latched : t.latched = s.latched
  camera : t.camera = camera
  out : t.out = s.out

section
variable {s : State}

/-- A tick of variant A keeps the tables and the configuration, and has the effect of the scan or idle part. -/
theorem tickA_keeps (hA : s.fixed.variant = .A) :
    ∃ t, exec .tickA s = .next t ∧ t.fixed = s.fixed ∧ t.latched = s.latched ∧ ScanOrIdleEffect s t := by
  obtain ⟨t, ht, heffect, e, -, -⟩ := tickOfVariantA s hA
  refine ⟨t, ht, ?_, ?_, heffect⟩ <;> rw [e]

/-- Below the threshold `k` ticks are `k` on the scan count (43_timer.md R93). -/
theorem ticksA_scanning (hA : s.fixed.variant = .A) (hbounds : s.fixed.params.BoundsLegal)
    (hscan : s.camera.scanActive = true) (hzero : s.camera.scanCycleCounter = 0) (k : Nat)
    (hk : k < s.fixed.params.scanTicks s.latched.scanPeriodMultiplier) :
    ∃ t, execAll (List.replicate k .tickA) s = .next t ∧
      CameraAt s { s.camera with scanCycleCounter := BitVec.ofNat 8 k } t := by
  refine execAll_replicate (P := fun k => CameraAt s { s.camera with scanCycleCounter := BitVec.ofNat 8 k }) k ?_ ?_
  · exact { fixed := rfl, latched := rfl, camera := (Camera.with_scanCycleCounter hzero).symm, out := rfl }
  · intro j hj t ht
    obtain ⟨u, hu, hfixed, hlatched, hbelow, -⟩ := tickA_keeps (s := t) (ht.fixed ▸ hA)
    have hmax := scanTicks_le hbounds s.latched.scanPeriodMultiplier
    obtain ⟨hsucc, hnat⟩ := counter_succ (k := j) (by omega)
    rw [ht.camera, ht.fixed, ht.latched, ht.out, hnat, hsucc] at hbelow
    obtain ⟨hcamera, hout⟩ := hbelow hscan (by omega)
    exact ⟨u, hu, hfixed.trans ht.fixed, hlatched.trans ht.latched, hcamera, hout⟩

/-- Up to the threshold `k` ticks are `k` on the inactivity count (43_timer.md R94). -/
theorem ticksA_idle (hA : s.fixed.variant = .A) (hbounds : s.fixed.params.BoundsLegal)
    (hoff : s.camera.scanActive = false) (hzero : s.camera.inactivityCounter = 0) (k : Nat)
    (hk : k ≤ s.fixed.params.inactivityThreshold) :
    ∃ t, execAll (List.replicate k .tickA) s = .next t ∧
      CameraAt s { s.camera with inactivityCounter := BitVec.ofNat 8 k } t := by
  obtain ⟨-, hmax, -⟩ := hbounds
  refine execAll_replicate (P := fun k => CameraAt s { s.camera with inactivityCounter := BitVec.ofNat 8 k }) k ?_ ?_
  · exact { fixed := rfl, latched := rfl, camera := (Camera.with_inactivityCounter hzero).symm, out := rfl }
  · intro j hj t ht
    obtain ⟨u, hu, hfixed, hlatched, -, -, hbelow, -⟩ := tickA_keeps (s := t) (ht.fixed ▸ hA)
    obtain ⟨hsucc, hnat⟩ := counter_succ (k := j) (by omega)
    rw [ht.camera, ht.fixed, ht.out, hnat, hsucc] at hbelow
    obtain ⟨hcamera, hout⟩ := hbelow hoff (by omega)
    exact ⟨u, hu, hfixed.trans ht.fixed, hlatched.trans ht.latched, hcamera, hout⟩

end

/-- Settles O41: the ticks before the last count, and the last one is at the threshold. -/
theorem scanAdvancesOncePerPeriod : Obligations.ScanAdvancesOncePerPeriod := by
  intro s hA hbounds hscan hzero
  have hcount := ticksA_scanning hA hbounds hscan hzero
  refine ⟨fun k hk => ?_, ?_⟩
  · obtain ⟨t, ht, hat⟩ := hcount k hk
    exact ⟨t, ht, hat.camera, hat.out⟩
  · have hpos := scanTicks_pos hbounds s.latched.scanPeriodMultiplier
    have hmax := scanTicks_le hbounds s.latched.scanPeriodMultiplier
    obtain ⟨k, hk⟩ := Nat.exists_eq_add_one.2 hpos
    obtain ⟨t, ht, hat⟩ := hcount k (by omega)
    obtain ⟨u, hu, -, -, -, hadvance, -⟩ := tickA_keeps (s := t) (hat.fixed ▸ hA)
    obtain ⟨-, hnat⟩ := counter_succ (k := k) (by omega)
    rw [hat.camera, hat.fixed, hat.latched, hat.out, hnat] at hadvance
    obtain ⟨c, hc, hcamera, hout⟩ := hadvance hscan (by omega)
    have hsame := Camera.with_scanCycleCounter (c := { s.camera with currentCamera := c }) hzero
    refine ⟨u, c, ?_, hc, hcamera.trans hsame, hout⟩
    rw [hk, List.replicate_succ', execAll_append_one ht, hu]

/-- Settles O42: the ticks before the last count, and the last one is above the threshold. -/
theorem idlePolicyOncePerPeriod : Obligations.IdlePolicyOncePerPeriod := by
  intro s hA hbounds hoff hzero
  have hcount := ticksA_idle hA hbounds hoff hzero
  refine ⟨fun k hk => ?_, ?_⟩
  · obtain ⟨t, ht, hat⟩ := hcount k hk
    exact ⟨t, ht, hat.camera, hat.out⟩
  · obtain ⟨-, hmax, -⟩ := hbounds
    obtain ⟨t, ht, hat⟩ := hcount _ le_rfl
    obtain ⟨u, hu, -, -, -, -, -, habove⟩ := tickA_keeps (s := t) (hat.fixed ▸ hA)
    obtain ⟨-, hnat⟩ := counter_succ (k := s.fixed.params.inactivityThreshold) (by omega)
    rw [hat.camera, hat.fixed, hat.latched, hat.out, hnat] at habove
    obtain ⟨hscan, hpriority, hnone⟩ := habove hoff (Nat.lt_succ_self _)
    have hsameScan := Camera.with_inactivityCounter
      (c := { s.camera with scanActive := true, scanCycleCounter := 0 }) hzero
    have hsamePriority := Camera.with_inactivityCounter (c := { s.camera with currentCamera := 1 }) hzero
    have hsameNone := Camera.with_inactivityCounter hzero
    refine ⟨u, ?_, fun hmode => (hscan hmode).imp_left (·.trans hsameScan),
      fun hmode => (hpriority hmode).imp_left (·.trans hsamePriority),
      fun hmode => (hnone hmode).imp_left (·.trans hsameNone)⟩
    rw [List.replicate_succ', execAll_append_one ht, hu]

/-- The resync count so far: the tables and the request as at the start. -/
structure ResyncAt (s : State) (n : Counter) (t : State) : Prop where
  fixed : t.fixed = s.fixed
  want : t.timer.wantResync = s.timer.wantResync
  count : t.timer.resyncCounter = n

/-- Below the threshold `k` ticks are `k` on the resync count (43_timer.md R95). -/
theorem ticksA_resync {s : State} (hA : s.fixed.variant = .A) (hbounds : s.fixed.params.BoundsLegal)
    (hzero : s.timer.resyncCounter = 0) (k : Nat) (hk : k < s.fixed.params.resyncThreshold) :
    ∃ t, execAll (List.replicate k .tickA) s = .next t ∧ ResyncAt s (BitVec.ofNat 8 k) t := by
  obtain ⟨-, -, -, hmax, -⟩ := hbounds
  refine execAll_replicate (P := fun k => ResyncAt s (BitVec.ofNat 8 k)) k ⟨rfl, rfl, hzero⟩ ?_
  intro j hj t ht
  obtain ⟨u, hu, -, e, hbelow, -⟩ := tickOfVariantA t (ht.fixed ▸ hA)
  have hfixed : u.fixed = t.fixed := by rw [e]
  obtain ⟨hsucc, hnat⟩ := counter_succ (k := j) (by omega)
  rw [ht.count, ht.fixed, hnat, hsucc] at hbelow
  have htimer := hbelow (by omega)
  exact ⟨u, hu, hfixed.trans ht.fixed, by rw [htimer, ← ht.want], by rw [htimer]⟩

/-- Settles O43: the ticks before the last count, and the last one is at the threshold. -/
theorem resyncIsRequestedOncePerPeriod : Obligations.ResyncIsRequestedOncePerPeriod := by
  intro s hA hbounds hzero
  have hcount := ticksA_resync hA hbounds hzero
  refine ⟨fun k hk => ?_, ?_⟩
  · obtain ⟨t, ht, hat⟩ := hcount k hk
    exact ⟨t, ht, hat.want, hat.count⟩
  · obtain ⟨-, -, hpos, hmax, -⟩ := hbounds
    obtain ⟨k, hk⟩ := Nat.exists_eq_add_one.2 hpos
    obtain ⟨t, ht, hat⟩ := hcount k (by omega)
    obtain ⟨u, hu, -, -, -, hrequest⟩ := tickOfVariantA t (hat.fixed ▸ hA)
    obtain ⟨-, hnat⟩ := counter_succ (k := k) (by omega)
    rw [hat.count, hat.fixed, hnat] at hrequest
    have htimer := hrequest (by omega)
    refine ⟨u, ?_, by rw [htimer], by rw [htimer]⟩
    rw [hk, List.replicate_succ', execAll_append_one ht, hu]

/-- The prescale count so far: of the block only the token's validity, the pending firing and the count itself may
have changed (43_timer.md R92). -/
def PrescaleAt (s : State) (n : BitVec 3) (t : State) : Prop :=
  ∃ valid pending : Bool, t = { s with
    token := { s.token with dupValid := valid }
    timer := { s.timer with tickPending := pending, prescaleCounter := n } }

/-- Settles O44: four base ticks only count, and the fifth is the slow tick. -/
theorem fiveBaseTicksAreOneSlowTick : Obligations.FiveBaseTicksAreOneSlowTick := by
  intro s hB hzero
  have hcount : ∃ t, execAll (List.replicate 4 .tickB) s = .next t ∧ PrescaleAt s (BitVec.ofNat 3 4) t := by
    refine execAll_replicate (P := fun k => PrescaleAt s (BitVec.ofNat 3 k)) 4
      ⟨s.token.dupValid, s.timer.tickPending,
        congrArg (fun r => { s with timer := r }) (Timer.with_prescaleCounter hzero).symm⟩ ?_
    rintro k hk t ⟨valid, pending, rfl⟩
    have hcarry : (BitVec.ofNat 3 k + 1).toNat ≠ 5 ∧ BitVec.ofNat 3 k + 1 = BitVec.ofNat 3 (k + 1) := by
      revert k
      decide
    obtain ⟨hne, hsucc⟩ := hcarry
    obtain ⟨hbase, -⟩ := tickOfVariantB { s with
      token := { s.token with dupValid := valid }
      timer := { s.timer with tickPending := pending, prescaleCounter := BitVec.ofNat 3 k } } hB
    exact ⟨_, hbase hne, false, false, by rw [← hsucc]⟩
  obtain ⟨t, ht, valid, pending, rfl⟩ := hcount
  obtain ⟨-, hslow⟩ := tickOfVariantB { s with
    token := { s.token with dupValid := valid }
    timer := { s.timer with tickPending := pending, prescaleCounter := 4 } } hB
  obtain ⟨u, hu, heffect, e⟩ := hslow rfl
  have hsame := Timer.with_prescaleCounter (r := { s.timer with tickPending := false }) hzero
  refine ⟨u, ?_, heffect, e.trans (congrArg (fun r => { s with
    camera := u.camera, out := u.out, token := { s.token with dupValid := false }, timer := r }) hsame)⟩
  rw [List.replicate_succ', execAll_append_one ht]
  exact hu

end Sys2Proof.Machine
end
